-- ==== Sys2Proof/Word.lean ====
section
/-! DEFINITION. The word types of the module: bytes, TIME values, counters and station addresses. -/
namespace Sys2Proof

/-- One byte on the line or in a management payload (chapter 0, section 0.6). -/
abbrev Byte := BitVec 8

/-- A value of TIME: a 32-bit count of microseconds (R14). -/
abbrev Time := BitVec 32

/-- A counter: 32-bit, wrapping (chapter 0, section 0.6; R13, R27, R28, R37). -/
abbrev Counter := BitVec 32

/-- A station address field, 0 to 127 (section 1.1). -/
abbrev Address := BitVec 7

end Sys2Proof
end

