-- ==== Sys2Proof/Syntax.lean ====
section
/-! DEFINITION. The commands of the module: one constructor for each row of the opcode table. -/
namespace Sys2Proof

/-- The three line ports (section 0.3). -/
inductive Port where
  | u | d | b
  deriving DecidableEq, Repr

/-- The level at a SENSE terminal (R148). -/
inductive Level where
  | low | high
  deriving DecidableEq, Repr

/-- A management request without its command code: the requester (SRC), the tag (SEQ), the ingress port and
the operand bytes (R155, R174). -/
structure Req where
  requester : Address
  tag : Byte
  ingress : Port
  operands : List Byte
  deriving DecidableEq, Repr

/-- The commands. The first group are the events of the module; the management commands after it carry the
request that brings them. -/
inductive Instr where
  /-- The RESET input is asserted (R8). -/
  | resetAsserted
  /-- RESET is released or the supply is established, with the ADDRESS switch at `switch` (R8). -/
  | coldReset (switch : Address)
  /-- The receiver of an OFFLINE port reports a valid signal (R10). -/
  | signalValid (port : Port)
  /-- The 100 µs of valid signal are over (R10). -/
  | qualificationExpiry (port : Port)
  /-- The receiver reports loss of signal (R10, R91). -/
  | signalLost (port : Port)
  /-- A reception completes with these bytes (R16). -/
  | arrival (port : Port) (bytes : List Byte)
  /-- The transmission of a port completes (R88). -/
  | transmissionComplete (port : Port)
  /-- The deadline D of a flow entry is reached (R67). -/
  | deadlineExpiry (entry : Fin 64)
  /-- The CLEAR_TABLE sweep visits its next entry (R52). -/
  | sweepVisit
  /-- A sample of a SENSE input finds this level (R148, R149). -/
  | senseSample (input : Fin 4) (level : Level)
  /-- The management lease expires (R163). -/
  | leaseExpiry
  /-- The acknowledgement timer of the reporter expires (R120). -/
  | ackTimerExpiry
  /-- The service of the current request completes (R156). -/
  | requestCompletion
  | discover (req : Req)
  | claim (req : Req)
  | release (req : Req)
  | readParam (req : Req)
  | writeParam (req : Req)
  | restart (req : Req)
  | portControl (req : Req)
  | readCounters (req : Req)
  | setRoute (req : Req)
  | readRoute (req : Req)
  | loadFlow (req : Req)
  | retimeFlow (req : Req)
  | armFlow (req : Req)
  | disarmFlow (req : Req)
  | dropFlow (req : Req)
  | readFlow (req : Req)
  | clearTable (req : Req)
  | readAttention (req : Req)
  | ackAttention (req : Req)
  | clearAttention (req : Req)
  | setCause (req : Req)
  | forceAttention (req : Req)
  | defineRing (req : Req)
  | startRing (req : Req)
  | stopRing (req : Req)
  | triggerRing (req : Req)
  | readRing (req : Req)
  | discardRing (req : Req)
  | senseConfig (req : Req)
  | readSense (req : Req)
  /-- A request whose command code names no command (R157, R174). -/
  | unknownCommand (code : Byte) (req : Req)
  /-- An ONLINE port sees an opening delimiter: a reception is in progress (R10). -/
  | receptionStart (port : Port)
  deriving DecidableEq, Repr

end Sys2Proof
end

