-- ==== Sys2Proof/Decode.lean ====
section
/-! DEFINITION. The command a table word spells. No row of the opcode table gives bits, so no word spells one. -/
namespace Sys2Proof

/-- The command the word `w` of `nbits` bits spells by the bits of the opcode table: every row's field list is
empty and none has fixed bits, so none. -/
def decodeTableWord (_nbits _w : Nat) : Option Instr := none

end Sys2Proof
end

