-- ==== Sys2Proof/Config.lean ====
section
/-! DEFINITION. What an implementation fixes and what the spec leaves open: constants with no body, so
that no proof can see a value of them. -/
namespace Sys2Proof

/-- The logic revision less one: REVISION is 1 to 255 and fixed in manufacture (R164). Free value, log 8. -/
opaque Config.revisionLessOne : Fin 255

/-- The choice the module makes where the spec lets either of several events be taken first (R105, R136,
R147): applied to the number of choices made so far. Free value, log 3. -/
opaque Config.pick : Nat → Nat

end Sys2Proof
end

