-- ==== Sys2Proof/Machine/State.lean ====
section
/-! DEFINITION. The state of the module as plain data, block by block, and its value right after a cold reset. -/
namespace Sys2Proof.Machine

/-! ## Time -/

/-- A moment: TIME and the fifths of a microsecond since it last changed. A byte-time is 0.8 µs (R7), so a
transmission may complete between two values of TIME. -/
structure Moment where
  us : Time
  fifth : Fin 5
  deriving DecidableEq, Repr

/-! ## Frames -/

/-- The six kinds of frame (R2). -/
inductive Kind where
  | cyc | acy | mgt | mrs | atn | sub
  deriving DecidableEq, Repr

/-- A frame (R1, R173). LEN is the length of the payload. The three groups of spare bits are kept, since a
forwarded copy carries them as they arrived. -/
structure Frame where
  dst : Address
  cut : Bool
  src : Address
  spareSrc : Bool
  kind : Kind
  ch : BitVec 4
  spareKind : Bool
  seq : Byte
  spareHop : BitVec 4
  hop : BitVec 4
  payload : List Byte
  fcs : BitVec 16
  deriving DecidableEq, Repr

/-! ## Ports -/

/-- Line state (R10). -/
inductive Line where
  | offline | online
  deriving DecidableEq, Repr

/-- Admin state (R11). -/
inductive Admin where
  | enabled | blocked
  deriving DecidableEq, Repr

/-- The origin of a queued frame (R82). -/
inductive Origin where
  | forward | sub | mrs | atn
  deriving DecidableEq, Repr

/-- An entry of an egress queue (R82). -/
structure QueueEntry where
  frame : Frame
  origin : Origin
  restartMark : Bool
  deriving DecidableEq, Repr

/-- What a queue answers to an offer (R84). -/
inductive Offer where
  | accepted | full | blocked | offline
  deriving DecidableEq, Repr

/-- The transmitter of a port (R87). -/
inductive Transmitter where
  | idle
  | sending (entry : QueueEntry) (ends : Moment)
  deriving DecidableEq, Repr

/-- The fifteen verdicts of an arrival, in the order of their codes (section 2.1, section 11.5). -/
inductive Verdict where
  | forwarded | local | dropCheck | dropHop | dropLoop | dropBlocked | dropNoroute | dropUnmatched
  | dropWrongPort | dropLength | dropEarly | dropDup | dropStale | dropGated | dropMgmt
  deriving DecidableEq, Repr

/-- One port: its states (R10, R11), its counters (R13, R27, R28), its queues (R82) and its transmitter (R87). -/
structure PortState where
  line : Line
  /-- Expiry of the qualification interval, when one runs (R10, R15). -/
  qualification : Option Time
  /-- A reception is in progress (R10). -/
  receiving : Bool
  admin : Admin
  transmitted : Counter
  aborted : Counter
  fragments : Counter
  full : Counter
  blocked : Counter
  offline : Counter
  verdicts : Vector Counter 15
  urgent : List QueueEntry
  normal : List QueueEntry
  transmitter : Transmitter
  deriving DecidableEq, Repr

/-- The three ports. -/
structure Ports where
  u : PortState
  d : PortState
  b : PortState
  deriving DecidableEq, Repr

/-- A target of the route map (section 2.5). -/
inductive Target where
  | default | u | d | b | drop
  deriving DecidableEq, Repr

/-! ## The flow table -/

inductive SeqPolicy where
  | unchecked | check
  deriving DecidableEq, Repr

inductive EarlyAction where
  | pass | drop
  deriving DecidableEq, Repr

inductive MissPolicy where
  | report | hold | holdThenCut
  deriving DecidableEq, Repr

/-- The two states of a sense input, raw or debounced (R148, R149). -/
inductive SenseState where
  | deasserted | asserted
  deriving DecidableEq, Repr

/-- The definition of a flow (section 3.2). Periods and tolerances are in ticks. -/
structure FlowDef where
  src : Address
  dst : Address
  ch : BitVec 4
  ingress : Port
  egress : BitVec 3
  period : Nat
  early : Nat
  late : Nat
  lenMin : Nat
  lenMax : Nat
  seqPolicy : SeqPolicy
  gap : Nat
  earlyAction : EarlyAction
  missPolicy : MissPolicy
  subLimit : Nat
  lossThreshold : Nat
  recovery : Nat
  gate : Option (Fin 4)
  gateLevel : SenseState
  quiet : Bool
  deriving DecidableEq, Repr

/-- The six states of a valid entry (R56). -/
inductive FlowState where
  | disabled | armed | locked | overdue | lost | recovering
  deriving DecidableEq, Repr

/-- Expected time E and deadline D, present together (R36). -/
structure Schedule where
  expected : Time
  deadline : Time
  deriving DecidableEq, Repr

/-- The fifteen flow counters (R37). -/
structure FlowCounters where
  accepted : Counter
  forwarded : Counter
  gated : Counter
  early : Counter
  late : Counter
  missed : Counter
  substituted : Counter
  cuts : Counter
  duplicate : Counter
  stale : Counter
  skipped : Counter
  breaks : Counter
  wrongPort : Counter
  lengthFaults : Counter
  subSeen : Counter
  deriving DecidableEq, Repr

/-- A valid flow entry (section 3.3). -/
structure Flow where
  defn : FlowDef
  state : FlowState
  schedule : Option Schedule
  lastSeq : Option Byte
  misses : Nat
  good : Nat
  subs : Nat
  holdSlot : Option (Fin 16)
  /-- The held payload; its LEN is its length (R39). -/
  holdContent : Option (List Byte)
  counters : FlowCounters
  deriving DecidableEq, Repr

/-! ## Requests -/

/-- A request as the agent holds it (R155). -/
structure Request where
  requester : Address
  tag : Byte
  ingress : Port
  code : Byte
  operands : List Byte
  deriving DecidableEq, Repr

/-- The commands of section 11.3. -/
inductive Command where
  | discover | claim | release | readParam | writeParam | restart
  | portControl | readCounters | setRoute | readRoute
  | loadFlow | retimeFlow | armFlow | disarmFlow | dropFlow | readFlow | clearTable
  | readAttention | ackAttention | clearAttention | setCause | forceAttention
  | defineRing | startRing | stopRing | triggerRing | readRing | discardRing
  | senseConfig | readSense
  deriving DecidableEq, Repr

/-- The statuses of section 10.7. -/
inductive Status where
  | ok | notOwner | unknownCommand | badLength | badValue | badIndex | busy | flowState
  | duplicateKey | noHoldSlot | ringOverlap | ringState | unknownId | notAllowed
  deriving DecidableEq, Repr

/-- What the take of a request fixes (R156): a response, or one of the two exceptions. -/
inductive Reply where
  | answer (status : Status) (results : List Byte)
  /-- A CLEAR_TABLE that started its sweep: answered when the sweep ends (R158). -/
  | sweeping
  /-- A RESTART that passed its checks (R168). -/
  | restarting
  deriving DecidableEq, Repr

/-- The CLEAR_TABLE sweep in progress (R51): its start S, the entry it visits next, the number made invalid so
far and the request it answers. -/
structure Sweep where
  start : Time
  next : Fin 64
  removed : Nat
  request : Request
  deriving DecidableEq, Repr

/-! ## Attention -/

/-- The seventeen causes (R99). -/
inductive Cause where
  | flowOverdue | flowLost | flowRecovered | flowSeqBreak | flowEarly | flowWrongPort | flowLength
  | portOffline | portOnline | portEgressDrop | portLoop
  | ringFrozen
  | senseAsserted | senseDeasserted
  | mgmtClaimExpired | mgmtRequestDropped
  | testForced
  deriving DecidableEq, Repr

/-- An attention event (R98): `quiet` for class FLOW, `given` for TEST/FORCED. -/
structure AttentionEvent where
  cause : Cause
  object : Byte
  time : Time
  quiet : Option Bool
  given : Option Nat
  deriving DecidableEq, Repr

inductive ReportState where
  | unreported | reported
  deriving DecidableEq, Repr

/-- An attention record (R100). -/
structure AttentionRecord where
  id : Nat
  cause : Cause
  object : Byte
  rank : Nat
  count : Nat
  reportedCount : Option Nat
  first : Time
  last : Time
  state : ReportState
  deriving DecidableEq, Repr

/-- Mask and rank of a cause (section 6.2). -/
structure CauseSetting where
  masked : Bool
  rank : Nat
  deriving DecidableEq, Repr

/-- The attention unit: list (R100, R101), lost count (R103), record-id counter (R106), masks and ranks. -/
structure Attention where
  records : List AttentionRecord
  lost : Nat
  nextId : Nat
  causes : Vector CauseSetting 17
  deriving DecidableEq, Repr

/-- What becomes of an event at the list; FORCE_ATTENTION returns it (R114). -/
inductive Taken where
  | created (id : Nat)
  | added (id : Nat)
  | masked
  | lost
  deriving DecidableEq, Repr

/-! ## The reporter -/

inductive ReporterState where
  | idle | waitAck | stalled
  deriving DecidableEq, Repr

/-- An item of the outstanding report (R116). -/
structure ReportItem where
  id : Nat
  acked : Bool
  deriving DecidableEq, Repr

/-- The reporter (R116). The outstanding report is absent when it has no item. -/
structure Reporter where
  state : ReporterState
  tag : Byte
  outstanding : List ReportItem
  retries : Nat
  timer : Option Time
  deriving DecidableEq, Repr

/-! ## The capture unit -/

/-- The ingress of a capture record: a port, or GEN (R130). -/
inductive Ingress where
  | port (p : Port)
  | gen
  deriving DecidableEq, Repr

/-- The verdict of a capture record: an arrival's, or GENERATED (R130). -/
inductive RecordVerdict where
  | arrival (v : Verdict)
  | generated
  deriving DecidableEq, Repr

/-- A capture record (R130). -/
structure CaptureRecord where
  time : Time
  ingress : Ingress
  flow : Option (Fin 64)
  verdict : RecordVerdict
  header : List Byte
  storedLength : Nat
  payload : List Byte
  deriving DecidableEq, Repr

/-- A capture notice has the fields of the record it offers, with the whole payload (R29, R131). -/
abbrev Notice := CaptureRecord

inductive RingMode where
  | wrap | stop
  deriving DecidableEq, Repr

/-- A trigger other than NONE; object `none` is ANY (R132). -/
structure Trigger where
  cause : Cause
  object : Option Byte
  deriving DecidableEq, Repr

/-- A ring definition (R132). Flow filter `none` is ANY. -/
structure RingDef where
  base : Nat
  size : Nat
  captureLength : Nat
  mode : RingMode
  verdictFilter : BitVec 16
  portFilter : BitVec 4
  flowFilter : Option (Fin 64)
  trigger : Option Trigger
  postCount : Nat
  deriving DecidableEq, Repr

inductive RingState where
  | idle | running | postfill | frozen
  deriving DecidableEq, Repr

/-- A defined ring (R133). -/
structure Ring where
  defn : RingDef
  state : RingState
  next : BitVec 32
  held : Nat
  remaining : Option Nat
  deriving DecidableEq, Repr

/-- Capture memory (R130): the slots that hold a record, in strictly rising order of their numbers. -/
abbrev CaptureMemory := List (Nat × CaptureRecord)

structure Capture where
  rings : Vector (Option Ring) 8
  memory : CaptureMemory
  deriving DecidableEq, Repr

/-! ## The sense unit -/

inductive Polarity where
  | activeHigh | activeLow
  deriving DecidableEq, Repr

inductive Edges where
  | noEdge | assert | deassert | both
  deriving DecidableEq, Repr

/-- A running qualification (R149). -/
structure Qualification where
  target : SenseState
  completes : Time
  deriving DecidableEq, Repr

/-- One sense input (section 9.1). -/
structure Sense where
  /-- The level that stands at the terminal, outside the module. -/
  terminal : Level
  /-- The synchronised level. -/
  level : Level
  debounced : SenseState
  qualification : Option Qualification
  polarity : Polarity
  debounce : Byte
  edges : Edges
  nextSample : Time
  /-- The first qualification after the cold reset has been made (R150, R154). -/
  settled : Bool
  deriving DecidableEq, Repr

/-! ## The management agent -/

/-- The service state (R155). -/
inductive Service where
  | idle
  | serving (request : Request) (ends : Time) (reply : Reply)
  | restartWait
  deriving DecidableEq, Repr

/-- A response cache entry (R159). -/
structure CacheEntry where
  requester : Address
  tag : Byte
  code : Byte
  payload : List Byte
  deriving DecidableEq, Repr

inductive Policy where
  | forward | drop
  deriving DecidableEq, Repr

/-- The eight writable parameters (R164). REPORT_ADDR `none` is NONE. -/
structure Params where
  unmatchedPolicy : Policy
  mgmtPorts : BitVec 3
  reportAddr : Option Address
  reportInterval : Nat
  reportRetries : Nat
  leaseTime : Nat
  alertRank : Nat
  genHop : BitVec 4
  deriving DecidableEq, Repr

/-- The eleven parameters (R164). -/
inductive Param where
  | unmatchedPolicy | mgmtPorts | reportAddr | reportInterval | reportRetries | leaseTime | alertRank | genHop
  | stationAddr | revision | time
  deriving DecidableEq, Repr

/-- The agent (R155). The cache stands in order of use, the most recently used first. -/
structure Agent where
  queue : List Request
  service : Service
  sweepPending : Option Request
  holder : Option Address
  lease : Option Time
  cache : List CacheEntry
  params : Params
  deriving DecidableEq, Repr

/-! ## The module -/

/-- What a block has raised inside a command and the unit it is for has not yet taken as an event of its own. -/
inductive Raised where
  /-- An attention event for the attention unit (R98). -/
  | attention (e : AttentionEvent)
  /-- The announcement of an attention event for the capture unit (R104). -/
  | announce (cause : Cause) (object : Byte)
  /-- A capture notice (R131). -/
  | notice (n : Notice)
  /-- The warm restart the agent has ordered (R169). -/
  | restart
  /-- An offer of a forwarded copy, a SUB frame or a cached response to a queue of a port (R83, R84). -/
  | offer (p : Port) (e : QueueEntry)
  /-- The agent's take of the request at the head of its queue (R156). -/
  | take
  /-- The arrival of a request of REPORT_ADDR, told to the STALLED reporter (R121). -/
  | stallExit (requester : Address)
  deriving DecidableEq, Repr

/-- The whole state of the module. -/
structure State where
  /-- The commands that wait, the oldest first. -/
  pending : List Instr
  clock : Moment
  /-- The RESET input (R8). -/
  resetAsserted : Bool
  /-- The number read from the ADDRESS switch at the cold reset; 127 is unaddressed operation (R8). -/
  station : Address
  /-- The ALERT output (R107). -/
  alert : Bool
  ports : Ports
  routes : Vector Target 127
  flows : Vector (Option Flow) 64
  sweep : Option Sweep
  attention : Attention
  reporter : Reporter
  capture : Capture
  sense : Vector Sense 4
  agent : Agent
  /-- Empty between commands. -/
  raised : List Raised
  /-- How many free choices of order have been made (log 3). -/
  choices : Nat
  deriving DecidableEq, Repr

/-- The spec gives no step that stops the module, so there is no fault. -/
inductive Fault
  deriving DecidableEq, Repr

/-- The refusals. -/
inductive Refusal where
  /-- Raised by `exec` for a command that has no meaning yet; safe. No command raises it. -/
  | notModelled (mnemonic : String)
  deriving DecidableEq, Repr

/-! ## Cold-reset values -/

/-- R8, R33, R97. -/
def PortState.reset : PortState where
  line := .offline
  qualification := none
  receiving := false
  admin := .enabled
  transmitted := 0
  aborted := 0
  fragments := 0
  full := 0
  blocked := 0
  offline := 0
  verdicts := .replicate 15 0
  urgent := []
  normal := []
  transmitter := .idle

/-- Every cause is unmasked and has its default rank (R99), in the order of `Cause`. -/
def Attention.defaultCauses : Vector CauseSetting 17 :=
  #v[⟨false, 2⟩, ⟨false, 0⟩, ⟨false, 4⟩, ⟨false, 3⟩, ⟨false, 5⟩, ⟨false, 3⟩, ⟨false, 3⟩,
     ⟨false, 1⟩, ⟨false, 5⟩, ⟨false, 4⟩, ⟨false, 2⟩,
     ⟨false, 6⟩,
     ⟨false, 3⟩, ⟨false, 3⟩,
     ⟨false, 5⟩, ⟨false, 6⟩,
     ⟨false, 0⟩]

/-- R115. -/
def Attention.reset : Attention where
  records := []
  lost := 0
  nextId := 1
  causes := Attention.defaultCauses

/-- R129. -/
def Reporter.reset : Reporter where
  state := .idle
  tag := 0
  outstanding := []
  retries := 0
  timer := none

/-- R154; the level at the terminal and the level before the first sample are low: DESIGN CHOICE, unsafe, log 7. -/
def Sense.reset : Sense where
  terminal := .low
  level := .low
  debounced := .deasserted
  qualification := none
  polarity := .activeHigh
  debounce := 0
  edges := .noEdge
  nextSample := 0
  settled := false

/-- The defaults of R164. -/
def Params.reset : Params where
  unmatchedPolicy := .forward
  mgmtPorts := 0b001
  reportAddr := none
  reportInterval := 5
  reportRetries := 5
  leaseTime := 200
  alertRank := 1
  genHop := 15

/-- R171. -/
def Agent.reset : Agent where
  queue := []
  service := .idle
  sweepPending := none
  holder := none
  lease := none
  cache := []
  params := Params.reset

/-- The module right after a cold reset (R8, R33, R55, R97, R115, R129, R147, R154, R171). The switch stands at 0:
DESIGN CHOICE, unsafe, log 6. -/
def State.reset : State where
  pending := []
  clock := ⟨0, 0⟩
  resetAsserted := false
  station := 0
  alert := false
  ports := ⟨.reset, .reset, .reset⟩
  routes := .replicate 127 .default
  flows := .replicate 64 none
  sweep := none
  attention := .reset
  reporter := .reset
  capture := ⟨.replicate 8 none, []⟩
  sense := .replicate 4 .reset
  agent := .reset
  raised := []
  choices := 0

end Sys2Proof.Machine
end

