-- ==== Sys2Proof/Machine/Ops.lean ====
section
/-! DEFINITION. The operations the blocks share: times, bytes, frames and their FCS, the one place where each part
of the state is read and written, raising of notices, and the egress queues with their transmitter. -/
namespace Sys2Proof.Machine

/-! ## Time (R14, R15) -/

/-- A lies before B when (B − A) mod 2^32 is from 1 to 2^31 − 1 (R15). -/
def before (a b : Time) : Bool := decide (0 < (b - a).toNat) && decide ((b - a).toNat < 2 ^ 31)

/-- Ticks of 10 µs (R15). -/
def ticks (n : Nat) : Time := BitVec.ofNat 32 (n * 10)

/-- Units of 10 ms (R15). -/
def tenMs (n : Nat) : Time := BitVec.ofNat 32 (n * 10000)

/-- The moment `n` fifths of a microsecond later. -/
def Moment.after (m : Moment) (n : Nat) : Moment :=
  ⟨m.us + BitVec.ofNat 32 ((m.fifth.val + n) / 5), Fin.ofNat 5 (m.fifth.val + n)⟩

/-- `m` lies before `n`. -/
def Moment.isBefore (m n : Moment) : Bool :=
  before m.us n.us || (decide (m.us = n.us) && decide (m.fifth < n.fifth))

/-- TIME as it stands (R14). -/
def State.time (s : State) : Time := s.clock.us

/-- The clock moved on to `m` when `m` lies ahead: the event of moment `m` has come (log 2). -/
def State.elapse (m : Moment) (s : State) : State :=
  if s.clock.isBefore m then { s with clock := m } else s

/-- The clock moved on to the TIME value `t` when it lies ahead. -/
def State.elapseTo (t : Time) (s : State) : State := s.elapse ⟨t, 0⟩

/-! ## Bytes (section 0.6: most significant byte first) -/

/-- A number in one byte. -/
def byte (n : Nat) : Byte := BitVec.ofNat 8 n

/-- A number in two bytes. -/
def be16 (n : Nat) : List Byte := [byte (n / 256), byte n]

/-- A 32-bit value in four bytes. -/
def be32 (v : BitVec 32) : List Byte :=
  [v.extractLsb' 24 8, v.extractLsb' 16 8, v.extractLsb' 8 8, v.extractLsb' 0 8]

/-- Two bytes as a number. -/
def nat16 (h l : Byte) : Nat := h.toNat * 256 + l.toNat

/-- Four bytes as a 32-bit value. -/
def word32 (a b c d : Byte) : BitVec 32 := a ++ b ++ c ++ d

/-- A boolean field: 0 for no, 1 for yes (R175). -/
def boolByte (x : Bool) : Byte := if x then 1 else 0

/-- A one-byte field that may be absent, 0xFF for absent (R175). -/
def orFF (x : Option Byte) : Byte := x.getD 0xFF

/-- Byte `i` of a list, 0 beyond its end. -/
def byteAt (l : List Byte) (i : Nat) : Byte := l.getD i 0

/-! ## Updates: every part of the state is written here -/

/-- A function applied at every index of a fixed table, by structural recursion on its list. -/
def vmap {α β : Type} {n : Nat} (f : α → β) (v : Vector α n) : Vector β n := ⟨⟨v.toList.map f⟩, by simp⟩

def Ports.get (ps : Ports) : Port → PortState
  | .u => ps.u
  | .d => ps.d
  | .b => ps.b

def Ports.set (ps : Ports) (p : Port) (x : PortState) : Ports :=
  match p with
  | .u => { ps with u := x }
  | .d => { ps with d := x }
  | .b => { ps with b := x }

def State.port (s : State) (p : Port) : PortState := s.ports.get p

def State.setPort (p : Port) (x : PortState) (s : State) : State := { s with ports := s.ports.set p x }

def State.flow (s : State) (i : Fin 64) : Option Flow := s.flows[i]

def State.setFlow (i : Fin 64) (x : Option Flow) (s : State) : State := { s with flows := s.flows.set i x }

def State.ring (s : State) (k : Fin 8) : Option Ring := s.capture.rings[k]

def State.setRing (k : Fin 8) (x : Option Ring) (s : State) : State :=
  { s with capture := { s.capture with rings := s.capture.rings.set k x } }

def State.setMemory (m : CaptureMemory) (s : State) : State :=
  { s with capture := { s.capture with memory := m } }

def State.input (s : State) (i : Fin 4) : Sense := s.sense[i]

def State.setInput (i : Fin 4) (x : Sense) (s : State) : State := { s with sense := s.sense.set i x }

def State.setAttention (a : Attention) (s : State) : State := { s with attention := a }

def State.setReporter (r : Reporter) (s : State) : State := { s with reporter := r }

def State.setAgent (a : Agent) (s : State) : State := { s with agent := a }

def State.setSweep (w : Option Sweep) (s : State) : State := { s with sweep := w }

def State.params (s : State) : Params := s.agent.params

/-- Addressed operation: the switch gave 0 to 126 (R8). -/
def State.addressed (s : State) : Bool := decide (s.station ≠ 127)

/-- The indices of the flow table, in order. -/
def flowIndices : List (Fin 64) := List.finRange 64

/-- The ring numbers, in order. -/
def ringIndices : List (Fin 8) := [0, 1, 2, 3, 4, 5, 6, 7]

/-- The sense inputs, in order. -/
def inputIndices : List (Fin 4) := [0, 1, 2, 3]

def allPorts : List Port := [.u, .d, .b]

/-! ## Raising -/

/-- A block hands something to the unit it is for, which takes it as an event of its own (R98, R131, R169). -/
def State.raise (x : Raised) (s : State) : State := { s with raised := s.raised ++ [x] }

/-- Raise an attention event of a class other than FLOW and TEST (R98). -/
def State.raiseEvent (c : Cause) (object : Byte) (s : State) : State :=
  s.raise (.attention ⟨c, object, s.time, none, none⟩)

/-- Raise an attention event of class FLOW, which carries the flow's quiet setting (R66, R98). -/
def State.raiseFlow (i : Fin 64) (quiet : Bool) (c : Cause) (s : State) : State :=
  s.raise (.attention ⟨c, byte i.val, s.time, some quiet, none⟩)

/-- A free choice among `n` (log 3): the choice counter advances only where there is something to choose. -/
def State.choose (n : Nat) (s : State) : Nat × State :=
  if n ≤ 1 then (0, s) else (Config.pick s.choices % n, { s with choices := s.choices + 1 })

/-! ## Codes of the frame and the ports (section 11.1, section 11.5) -/

def portCode : Port → Nat
  | .u => 0
  | .d => 1
  | .b => 2

def portByte (p : Port) : Byte := byte (portCode p)

def portOfByte (x : Byte) : Option Port :=
  if x = 0 then some .u else if x = 1 then some .d else if x = 2 then some .b else none

/-- Membership in a set of ports: bit n stands for the port of code n (R175). -/
def portIn (set : BitVec 3) (p : Port) : Bool := set.getLsbD (portCode p)

def Kind.code : Kind → BitVec 3
  | .cyc => 0
  | .acy => 1
  | .mgt => 2
  | .mrs => 3
  | .atn => 4
  | .sub => 5

/-- Codes 6 and 7 name no kind (R2). -/
def Kind.ofCode (x : BitVec 3) : Option Kind :=
  if x = 0 then some .cyc else if x = 1 then some .acy else if x = 2 then some .mgt
  else if x = 3 then some .mrs else if x = 4 then some .atn else if x = 5 then some .sub else none

/-! ## FCS and frames (R1, R4, R5, R173) -/

/-- One bit of the CRC with generator x^16 + x^12 + x^5 + 1. -/
def crcBit (c : BitVec 16) : BitVec 16 := if c.msb then (c <<< 1) ^^^ 0x1021#16 else c <<< 1

/-- One byte into the CRC, most significant bit first. -/
def crcByte (c : BitVec 16) (x : Byte) : BitVec 16 :=
  (List.range 8).foldl (fun c _ => crcBit c) (c ^^^ (x.setWidth 16 <<< 8))

/-- The FCS of some bytes: the register starts at all ones and the result is neither reflected nor inverted. -/
def crc16 (bytes : List Byte) : BitVec 16 := bytes.foldl crcByte 0xFFFF#16

/-- Bytes 0 to 5 of a frame. -/
def Frame.header (f : Frame) : List Byte :=
  [f.dst ++ BitVec.ofBool f.cut, f.src ++ BitVec.ofBool f.spareSrc,
   f.kind.code ++ f.ch ++ BitVec.ofBool f.spareKind, f.seq, f.spareHop ++ f.hop, byte f.payload.length]

/-- The FCS computed over header and payload (R5). -/
def Frame.sum (f : Frame) : BitVec 16 := crc16 (f.header ++ f.payload)

/-- The frame with its FCS computed afresh. -/
def Frame.sealed (f : Frame) : Frame := { f with fcs := f.sum }

/-- All bytes of a frame, in the order of transmission. -/
def Frame.bytes (f : Frame) : List Byte :=
  f.header ++ f.payload ++ [f.fcs.extractLsb' 8 8, f.fcs.extractLsb' 0 8]

/-- A frame the module generates: spare bits 0, FCS computed when the frame is built (R1, R5). -/
def Frame.build (kind : Kind) (dst src : Address) (cut : Bool) (ch : BitVec 4) (seq : Byte) (hop : BitVec 4)
    (payload : List Byte) : Frame :=
  Frame.sealed ⟨dst, cut, src, false, kind, ch, false, seq, 0, hop, payload, 0⟩

/-- A forwarded copy: HOP one less and the FCS computed afresh, nothing else (R4). -/
def Frame.forwarded (f : Frame) : Frame := Frame.sealed { f with hop := f.hop - 1 }

/-- The LEN a reception declares: its sixth byte (R6). -/
def declaredLen (bytes : List Byte) : Nat := (byteAt bytes 5).toNat

/-- The reception fails the receive check (R6). -/
def receiveFails (bytes : List Byte) : Bool :=
  decide (bytes.length < 8)
  || decide (bytes.length ≠ declaredLen bytes + 8)
  || decide (60 < declaredLen bytes)
  || (Kind.ofCode ((byteAt bytes 2).extractLsb' 5 3)).isNone
  || decide ((byteAt bytes 1).extractLsb' 1 7 = 127)
  || decide (crc16 (bytes.take (bytes.length - 2)) ≠ byteAt bytes (bytes.length - 2) ++ byteAt bytes (bytes.length - 1))

/-- The frame a reception carries, when it passes the receive check (R6, R173). -/
def Frame.parse (bytes : List Byte) : Option Frame :=
  if receiveFails bytes then none
  else match Kind.ofCode ((byteAt bytes 2).extractLsb' 5 3) with
    | none => none
    | some kind => some {
        dst := (byteAt bytes 0).extractLsb' 1 7
        cut := (byteAt bytes 0).getLsbD 0
        src := (byteAt bytes 1).extractLsb' 1 7
        spareSrc := (byteAt bytes 1).getLsbD 0
        kind := kind
        ch := (byteAt bytes 2).extractLsb' 1 4
        spareKind := (byteAt bytes 2).getLsbD 0
        seq := byteAt bytes 3
        spareHop := (byteAt bytes 4).extractLsb' 4 4
        hop := (byteAt bytes 4).extractLsb' 0 4
        payload := (bytes.drop 6).take (declaredLen bytes)
        fcs := byteAt bytes (bytes.length - 2) ++ byteAt bytes (bytes.length - 1) }

/-! ## Egress queues and transmitter (chapter 5) -/

/-- Capacity of the URGENT queue (R82). -/
def urgentCapacity : Nat := 4

/-- Capacity of the NORMAL queue (R82). -/
def normalCapacity : Nat := 12

/-- What the port answers to an offer, in the order of R84. -/
def PortState.answer (p : PortState) (e : QueueEntry) : Offer :=
  if p.line = .offline then .offline
  else if p.admin = .blocked ∧ (e.origin = .forward ∨ e.origin = .sub) then .blocked
  else if e.origin = .forward then
    if p.normal.length < normalCapacity then .accepted else .full
  else
    if p.urgent.length < urgentCapacity then .accepted else .full

/-- An accepted frame joins the tail of the queue its origin fixes (R83, R84). -/
def PortState.join (p : PortState) (e : QueueEntry) : PortState :=
  if e.origin = .forward then { p with normal := p.normal ++ [e] } else { p with urgent := p.urgent ++ [e] }

/-- A transmission of LEN payload bytes lasts (LEN + 12) × 0.8 µs: so many fifths of a microsecond (R7, R88). -/
def transmissionFifths (f : Frame) : Nat := (f.payload.length + 12) * 4

/-- An IDLE transmitter of an ONLINE port takes the head of URGENT, or else of NORMAL (R87). -/
def PortState.startNext (now : Moment) (p : PortState) : PortState :=
  match p.line, p.transmitter with
  | .online, .idle =>
    match p.urgent, p.normal with
    | e :: rest, _ =>
      { p with urgent := rest, transmitter := .sending e (now.after (transmissionFifths e.frame)) }
    | [], e :: rest =>
      { p with normal := rest, transmitter := .sending e (now.after (transmissionFifths e.frame)) }
    | [], [] => p
  | _, _ => p

/-- The egress-drop counter of a refusal (R28, R84). -/
def PortState.countRefusal (o : Offer) (p : PortState) : PortState :=
  match o with
  | .accepted => p
  | .full => { p with full := p.full + 1 }
  | .blocked => { p with blocked := p.blocked + 1 }
  | .offline => { p with offline := p.offline + 1 }

/-- An offer of a frame to a queue of a port (R84): taken and, where the transmitter is IDLE, started (R87); or
refused and counted, with PORT/EGRESS_DROP for a full queue (R85). A refused frame with the restart mark orders
the warm restart (R90, R169). -/
def State.enqueue (p : Port) (e : QueueEntry) (s : State) : State :=
  match (s.port p).answer e with
  | .accepted => s.setPort p (((s.port p).join e).startNext s.clock)
  | o =>
    let s := s.setPort p ((s.port p).countRefusal o)
    let s := if o = .full then s.raiseEvent .portEgressDrop (portByte p) else s
    if e.restartMark then s.raise .restart else s

/-- One copy of a frame offered to each port of a set: each is an enqueue event of its own at its queue, before or after
what else the event raises (R76, R83, R86; log 3). -/
def State.offerAll (set : BitVec 3) (e : QueueEntry) (s : State) : State :=
  allPorts.foldl (fun s p => if portIn set p then s.raise (.offer p e) else s) s

/-- The notice of a frame the module generates (R131). -/
def State.offerGenerated (flow : Option (Fin 64)) (f : Frame) (s : State) : State :=
  s.raise (.notice ⟨s.time, .gen, flow, .generated, f.header, f.payload.length, f.payload⟩)

/-! ## Events at the module -/

/-- While RESET is asserted the module is held in reset (R8): nothing else happens to it. -/
def State.unlessReset (body : State → State) (s : State) : State := if s.resetAsserted then s else body s

end Sys2Proof.Machine
end

