-- ==== Sys2Proof/Machine/Flags.lean ====
section
/-! DEFINITION. Verdict counters, the ALERT output, the gates and the comparison flags of rings: what the module
computes as a flag from the rest of its state. -/
namespace Sys2Proof.Machine

/-- The code of a verdict, which is also its counter's index (R27, section 11.5). -/
def Verdict.index : Verdict → Fin 15
  | .forwarded => 0
  | .local => 1
  | .dropCheck => 2
  | .dropHop => 3
  | .dropLoop => 4
  | .dropBlocked => 5
  | .dropNoroute => 6
  | .dropUnmatched => 7
  | .dropWrongPort => 8
  | .dropLength => 9
  | .dropEarly => 10
  | .dropDup => 11
  | .dropStale => 12
  | .dropGated => 13
  | .dropMgmt => 14

/-- The code of a capture record's verdict: GENERATED is 15 (section 11.5). -/
def RecordVerdict.code : RecordVerdict → Nat
  | .arrival v => v.index.val
  | .generated => 15

/-- The code of a capture record's ingress: GEN is 3 (section 11.5). -/
def Ingress.code : Ingress → Nat
  | .port p => portCode p
  | .gen => 3

/-- One more arrival with this verdict (R27). -/
def PortState.countVerdict (v : Verdict) (p : PortState) : PortState :=
  { p with verdicts := p.verdicts.set v.index (p.verdicts[v.index] + 1) }

/-- The condition of ALERT: a record of rank not greater than ALERT_RANK, or the reporter STALLED (R107). -/
def State.alertCondition (s : State) : Bool :=
  s.attention.records.any (fun r => decide (r.rank ≤ s.params.alertRank))
  || decide (s.reporter.state = .stalled)

/-- ALERT follows its condition, and is deasserted while RESET holds the module (R107). -/
def State.refreshAlert (s : State) : State := { s with alert := !s.resetAsserted && s.alertCondition }

/-- The raw state that a level means under a polarity (R148). -/
def rawState (polarity : Polarity) (level : Level) : SenseState :=
  match polarity, level with
  | .activeHigh, .high => .asserted
  | .activeHigh, .low => .deasserted
  | .activeLow, .high => .deasserted
  | .activeLow, .low => .asserted

/-- The raw state of an input (R148). -/
def Sense.raw (x : Sense) : SenseState := rawState x.polarity x.level

/-- The gate of a flow is open: NONE, or the debounced state of its input equals the required level (R71). -/
def State.gateOpen (d : FlowDef) (s : State) : Bool :=
  match d.gate with
  | none => true
  | some i => decide ((s.input i).debounced = d.gateLevel)

end Sys2Proof.Machine
end

