-- ==== Sys2Proof/Machine/Operands.lean ====
section
/-! DEFINITION. The operand forms of the management commands and the codes of values: how operand bytes are read,
which values are legal, and how values are written in results (chapter 11). -/
namespace Sys2Proof.Machine

/-! ## Codes of values (section 11.3, section 11.5) -/

def Command.code : Command → Byte
  | .discover => 0x01
  | .claim => 0x02
  | .release => 0x03
  | .readParam => 0x04
  | .writeParam => 0x05
  | .restart => 0x06
  | .portControl => 0x10
  | .readCounters => 0x11
  | .setRoute => 0x12
  | .readRoute => 0x13
  | .loadFlow => 0x20
  | .retimeFlow => 0x21
  | .armFlow => 0x22
  | .disarmFlow => 0x23
  | .dropFlow => 0x24
  | .readFlow => 0x25
  | .clearTable => 0x26
  | .readAttention => 0x30
  | .ackAttention => 0x31
  | .clearAttention => 0x32
  | .setCause => 0x33
  | .forceAttention => 0x34
  | .defineRing => 0x40
  | .startRing => 0x41
  | .stopRing => 0x42
  | .triggerRing => 0x43
  | .readRing => 0x44
  | .discardRing => 0x45
  | .senseConfig => 0x50
  | .readSense => 0x51

def Command.all : List Command :=
  [.discover, .claim, .release, .readParam, .writeParam, .restart, .portControl, .readCounters, .setRoute,
   .readRoute, .loadFlow, .retimeFlow, .armFlow, .disarmFlow, .dropFlow, .readFlow, .clearTable, .readAttention,
   .ackAttention, .clearAttention, .setCause, .forceAttention, .defineRing, .startRing, .stopRing, .triggerRing,
   .readRing, .discardRing, .senseConfig, .readSense]

/-- The command a code names, if any (section 11.3). -/
def Command.ofCode (c : Byte) : Option Command := Command.all.find? (fun x => decide (x.code = c))

def Status.code : Status → Byte
  | .ok => 0x00
  | .notOwner => 0x01
  | .unknownCommand => 0x02
  | .badLength => 0x03
  | .badValue => 0x04
  | .badIndex => 0x05
  | .busy => 0x06
  | .flowState => 0x07
  | .duplicateKey => 0x08
  | .noHoldSlot => 0x09
  | .ringOverlap => 0x0A
  | .ringState => 0x0B
  | .unknownId => 0x0C
  | .notAllowed => 0x0D

def Cause.code : Cause → Byte
  | .flowOverdue => 0x11
  | .flowLost => 0x12
  | .flowRecovered => 0x13
  | .flowSeqBreak => 0x14
  | .flowEarly => 0x15
  | .flowWrongPort => 0x16
  | .flowLength => 0x17
  | .portOffline => 0x21
  | .portOnline => 0x22
  | .portEgressDrop => 0x23
  | .portLoop => 0x24
  | .ringFrozen => 0x31
  | .senseAsserted => 0x41
  | .senseDeasserted => 0x42
  | .mgmtClaimExpired => 0x51
  | .mgmtRequestDropped => 0x52
  | .testForced => 0x61

/-- The place of a cause in the table of masks and ranks, in the order of R99. -/
def Cause.index : Cause → Fin 17
  | .flowOverdue => 0
  | .flowLost => 1
  | .flowRecovered => 2
  | .flowSeqBreak => 3
  | .flowEarly => 4
  | .flowWrongPort => 5
  | .flowLength => 6
  | .portOffline => 7
  | .portOnline => 8
  | .portEgressDrop => 9
  | .portLoop => 10
  | .ringFrozen => 11
  | .senseAsserted => 12
  | .senseDeasserted => 13
  | .mgmtClaimExpired => 14
  | .mgmtRequestDropped => 15
  | .testForced => 16

def Cause.all : List Cause :=
  [.flowOverdue, .flowLost, .flowRecovered, .flowSeqBreak, .flowEarly, .flowWrongPort, .flowLength, .portOffline,
   .portOnline, .portEgressDrop, .portLoop, .ringFrozen, .senseAsserted, .senseDeasserted, .mgmtClaimExpired,
   .mgmtRequestDropped, .testForced]

/-- The cause a code names, if any (section 11.5). -/
def Cause.ofCode (c : Byte) : Option Cause := Cause.all.find? (fun x => decide (x.code = c))

/-- The cause belongs to class FLOW. -/
def Cause.isFlow (c : Cause) : Bool := decide (c.code.extractLsb' 4 4 = 1)

/-- The largest object value of a cause's object kind (R99, R132). -/
def Cause.objectMax : Cause → Nat
  | .flowOverdue | .flowLost | .flowRecovered | .flowSeqBreak | .flowEarly | .flowWrongPort | .flowLength => 63
  | .portOffline | .portOnline | .portEgressDrop | .portLoop => 2
  | .ringFrozen => 7
  | .senseAsserted | .senseDeasserted => 3
  | .mgmtClaimExpired | .mgmtRequestDropped => 126
  | .testForced => 255

def Target.code : Target → Byte
  | .default => 0
  | .u => 1
  | .d => 2
  | .b => 3
  | .drop => 4

def Target.ofByte (x : Byte) : Option Target :=
  if x = 0 then some .default else if x = 1 then some .u else if x = 2 then some .d
  else if x = 3 then some .b else if x = 4 then some .drop else none

def FlowState.code : FlowState → Byte
  | .disabled => 0
  | .armed => 1
  | .locked => 2
  | .overdue => 3
  | .lost => 4
  | .recovering => 5

def RingState.code : RingState → Byte
  | .idle => 0
  | .running => 1
  | .postfill => 2
  | .frozen => 3

/-- The state code of a ring, 0xFF for undefined (section 11.5). -/
def ringStateByte (r : Option Ring) : Byte := orFF (r.map (fun x => x.state.code))

def ReporterState.code : ReporterState → Byte
  | .idle => 0
  | .waitAck => 1
  | .stalled => 2

def Line.code : Line → Byte
  | .offline => 0
  | .online => 1

def Admin.code : Admin → Byte
  | .enabled => 0
  | .blocked => 1

def levelCode : Level → Byte
  | .low => 0
  | .high => 1

def SenseState.code : SenseState → Byte
  | .deasserted => 0
  | .asserted => 1

def SenseState.ofByte (x : Byte) : Option SenseState :=
  if x = 0 then some .deasserted else if x = 1 then some .asserted else none

def Polarity.code : Polarity → Byte
  | .activeHigh => 0
  | .activeLow => 1

def Polarity.ofByte (x : Byte) : Option Polarity :=
  if x = 0 then some .activeHigh else if x = 1 then some .activeLow else none

def Edges.code : Edges → Byte
  | .noEdge => 0
  | .assert => 1
  | .deassert => 2
  | .both => 3

def Edges.ofByte (x : Byte) : Option Edges :=
  if x = 0 then some .noEdge else if x = 1 then some .assert else if x = 2 then some .deassert
  else if x = 3 then some .both else none

def SeqPolicy.code : SeqPolicy → Byte
  | .unchecked => 0
  | .check => 1

def SeqPolicy.ofByte (x : Byte) : Option SeqPolicy :=
  if x = 0 then some .unchecked else if x = 1 then some .check else none

def EarlyAction.code : EarlyAction → Byte
  | .pass => 0
  | .drop => 1

def EarlyAction.ofByte (x : Byte) : Option EarlyAction :=
  if x = 0 then some .pass else if x = 1 then some .drop else none

def MissPolicy.code : MissPolicy → Byte
  | .report => 0
  | .hold => 1
  | .holdThenCut => 2

def MissPolicy.ofByte (x : Byte) : Option MissPolicy :=
  if x = 0 then some .report else if x = 1 then some .hold else if x = 2 then some .holdThenCut else none

/-- A boolean operand: 0 no, 1 yes, any other value illegal (R175). -/
def boolOfByte (x : Byte) : Option Bool :=
  if x = 0 then some false else if x = 1 then some true else none

def RingMode.ofByte (x : Byte) : Option RingMode :=
  if x = 0 then some .wrap else if x = 1 then some .stop else none

/-! ## Flow definitions (R35, R176) -/

/-- The entry a gate input byte names: 0 NONE, 1 to 4 SENSE0 to SENSE3; anything else illegal (R176). -/
def gateOfByte (x : Byte) : Option (Option (Fin 4)) :=
  if x = 0 then some none else if x = 1 then some (some 0) else if x = 2 then some (some 1)
  else if x = 3 then some (some 2) else if x = 4 then some (some 3) else none

def gateByte : Option (Fin 4) → Byte
  | none => 0
  | some i => byte (i.val + 1)

/-- A definition is legal, but for the station address (R35). -/
def FlowDef.legal (d : FlowDef) : Bool :=
  decide (d.src.toNat ≤ 126)
  && decide (d.egress ≠ 0) && !portIn d.egress d.ingress
  && decide (1 ≤ d.period) && decide (d.period ≤ 65535)
  && decide (d.early ≤ d.period - 1) && decide (d.late ≤ d.period - 1)
  && decide (d.lenMin ≤ d.lenMax) && decide (d.lenMax ≤ 60)
  && decide (d.gap ≤ 127)
  && decide (1 ≤ d.lossThreshold) && decide (d.lossThreshold ≤ 15)
  && decide (d.subLimit < d.lossThreshold)
  && decide (1 ≤ d.recovery) && decide (d.recovery ≤ 7)

/-- In addressed operation neither SRC nor DST may be the station address (R35). -/
def FlowDef.avoids (station : Address) (d : FlowDef) : Bool :=
  decide (station = 127) || (decide (d.src ≠ station) && decide (d.dst ≠ station))

/-- The 23 definition bytes of R176. -/
def FlowDef.bytes (d : FlowDef) : List Byte :=
  [d.src.setWidth 8, d.dst.setWidth 8, d.ch.setWidth 8, portByte d.ingress, d.egress.setWidth 8]
  ++ be16 d.period ++ be16 d.early ++ be16 d.late
  ++ [byte d.lenMin, byte d.lenMax, d.seqPolicy.code, byte d.gap, d.earlyAction.code, d.missPolicy.code,
      byte d.subLimit, byte d.lossThreshold, byte d.recovery, gateByte d.gate, d.gateLevel.code, boolByte d.quiet]

/-- The legal definition that 23 bytes give, if they give one (R35, R176). -/
def FlowDef.ofBytes : List Byte → Option FlowDef
  | [src, dst, ch, ing, eg, p1, p0, e1, e0, l1, l0, mn, mx, sq, gp, ea, mp, sl, lt, rc, gi, gl, qt] => do
    let ingress ← portOfByte ing
    let seqPolicy ← SeqPolicy.ofByte sq
    let earlyAction ← EarlyAction.ofByte ea
    let missPolicy ← MissPolicy.ofByte mp
    let gate ← gateOfByte gi
    let gateLevel ← SenseState.ofByte gl
    let quiet ← boolOfByte qt
    let d : FlowDef := {
      src := src.setWidth 7, dst := dst.setWidth 7, ch := ch.setWidth 4, ingress, egress := eg.setWidth 3
      period := nat16 p1 p0, early := nat16 e1 e0, late := nat16 l1 l0
      lenMin := mn.toNat, lenMax := mx.toNat, seqPolicy, gap := gp.toNat, earlyAction, missPolicy
      subLimit := sl.toNat, lossThreshold := lt.toNat, recovery := rc.toNat, gate, gateLevel, quiet }
    if src.toNat ≤ 127 ∧ dst.toNat ≤ 127 ∧ ch.toNat ≤ 15 ∧ eg.toNat ≤ 7 ∧ d.legal then some d else none
  | _ => none

/-- The entry needs a hold slot (R38). -/
def FlowDef.needsHold (d : FlowDef) : Bool := decide (d.missPolicy ≠ .report)

/-- The two definitions carry one key (R34). -/
def FlowDef.sameKey (d e : FlowDef) : Bool := decide (d.src = e.src ∧ d.dst = e.dst ∧ d.ch = e.ch)

/-! ## Ring definitions (R132, R176) -/

/-- The trigger three bytes give; under NONE the object bytes are not checked (R176). -/
def triggerOfBytes (code kind object : Byte) : Option (Option Trigger) :=
  if code = 0 then some none
  else match Cause.ofCode code with
    | none => none
    | some c =>
      if kind = 0 then some (some ⟨c, none⟩)
      else if kind = 1 ∧ object.toNat ≤ c.objectMax then some (some ⟨c, some object⟩)
      else none

/-- The flow filter a byte gives: 0 to 63, or 0xFF for ANY (R176). -/
def flowFilterOfByte (x : Byte) : Option (Option (Fin 64)) :=
  if x = 0xFF then some none
  else if h : x.toNat < 64 then some (some ⟨x.toNat, h⟩) else none

/-- A ring definition is legal (R132). -/
def RingDef.legal (d : RingDef) : Bool :=
  [8, 16, 32, 64, 128, 256, 512].contains d.size
  && decide (d.base ≤ 1023) && decide (d.base % d.size = 0)
  && [0, 8, 16, 32].contains d.captureLength
  && decide (d.verdictFilter ≠ 0) && decide (d.portFilter ≠ 0)
  && decide (d.postCount ≤ d.size - 1)

/-- The legal ring definition that the 15 bytes after the ring number give, if they give one (R132, R176). -/
def RingDef.ofBytes : List Byte → Option RingDef
  | [b1, b0, s1, s0, cl, md, v1, v0, pf, ff, tr, ok, ob, p1, p0] => do
    let mode ← RingMode.ofByte md
    let flowFilter ← flowFilterOfByte ff
    let trigger ← triggerOfBytes tr ok ob
    let d : RingDef := {
      base := nat16 b1 b0, size := nat16 s1 s0, captureLength := cl.toNat, mode
      verdictFilter := v1 ++ v0, portFilter := pf.setWidth 4, flowFilter, trigger, postCount := nat16 p1 p0 }
    if pf.toNat ≤ 15 ∧ d.legal then some d else none
  | _ => none

/-- The two definitions share a slot (R140). -/
def RingDef.overlaps (d e : RingDef) : Bool :=
  decide (d.base < e.base + e.size) && decide (e.base < d.base + d.size)

/-! ## Parameters (R164, R180) -/

def Param.number : Param → Byte
  | .unmatchedPolicy => 1
  | .mgmtPorts => 2
  | .reportAddr => 3
  | .reportInterval => 4
  | .reportRetries => 5
  | .leaseTime => 6
  | .alertRank => 7
  | .genHop => 8
  | .stationAddr => 16
  | .revision => 17
  | .time => 18

def Param.all : List Param :=
  [.unmatchedPolicy, .mgmtPorts, .reportAddr, .reportInterval, .reportRetries, .leaseTime, .alertRank, .genHop,
   .stationAddr, .revision, .time]

/-- The parameter a number names, if any (section 11.6). -/
def Param.ofByte (x : Byte) : Option Param := Param.all.find? (fun p => decide (p.number = x))

/-- REVISION: 1 to 255, fixed in manufacture (R164; free value, log 8). -/
def revision : Nat := Config.revisionLessOne.val + 1

def Policy.code : Policy → Nat
  | .forward => 0
  | .drop => 1

/-- An address that may be NONE, 0xFF for NONE (R180). -/
def addressNat (a : Option Address) : Nat := (a.map BitVec.toNat).getD 255

/-- The value of a parameter as its 4-byte field (R165, R180). -/
def State.paramValue (s : State) : Param → BitVec 32
  | .unmatchedPolicy => BitVec.ofNat 32 s.params.unmatchedPolicy.code
  | .mgmtPorts => s.params.mgmtPorts.setWidth 32
  | .reportAddr => BitVec.ofNat 32 (addressNat s.params.reportAddr)
  | .reportInterval => BitVec.ofNat 32 s.params.reportInterval
  | .reportRetries => BitVec.ofNat 32 s.params.reportRetries
  | .leaseTime => BitVec.ofNat 32 s.params.leaseTime
  | .alertRank => BitVec.ofNat 32 s.params.alertRank
  | .genHop => s.params.genHop.setWidth 32
  | .stationAddr => s.station.setWidth 32
  | .revision => BitVec.ofNat 32 revision
  | .time => s.time

/-- A parameter with a new value, if the value lies in its range (R164, R166, R180); `none` is BAD_VALUE. The
read-only parameters have no such value. -/
def Params.write (station : Address) (p : Param) (v : Nat) (x : Params) : Option Params :=
  match p with
  | .unmatchedPolicy =>
    if v = 0 then some { x with unmatchedPolicy := .forward }
    else if v = 1 then some { x with unmatchedPolicy := .drop } else none
  | .mgmtPorts => if 1 ≤ v ∧ v ≤ 7 then some { x with mgmtPorts := BitVec.ofNat 3 v } else none
  | .reportAddr =>
    if v = 255 then some { x with reportAddr := none }
    else if v ≤ 126 ∧ v ≠ station.toNat then some { x with reportAddr := some (BitVec.ofNat 7 v) } else none
  | .reportInterval => if 1 ≤ v ∧ v ≤ 255 then some { x with reportInterval := v } else none
  | .reportRetries => if v ≤ 15 then some { x with reportRetries := v } else none
  | .leaseTime => if 10 ≤ v ∧ v ≤ 6000 then some { x with leaseTime := v } else none
  | .alertRank => if v ≤ 7 then some { x with alertRank := v } else none
  | .genHop => if 1 ≤ v ∧ v ≤ 15 then some { x with genHop := BitVec.ofNat 4 v } else none
  | .stationAddr => none
  | .revision => none
  | .time => none

/-- The parameter may not be written (R164, R166). -/
def Param.readOnly : Param → Bool
  | .stationAddr | .revision | .time => true
  | _ => false

end Sys2Proof.Machine
end

