-- ==== Sys2Proof/Machine/Capture.lean ====
section
/-! DEFINITION. The capture unit (chapter 8): capture memory, what a ring writes, how it freezes and triggers. -/
namespace Sys2Proof.Machine

/-! ## Capture memory (R130) -/

/-- The canonical form: slot numbers strictly rising and below 1024. -/
def CaptureMemory.wf : CaptureMemory → Bool
  | [] => true
  | [x] => decide (x.1 < 1024)
  | x :: y :: rest => decide (x.1 < y.1) && CaptureMemory.wf (y :: rest)

/-- The record a slot holds, if it holds one. -/
def CaptureMemory.read (slot : Nat) : CaptureMemory → Option CaptureRecord
  | [] => none
  | x :: rest => if x.1 = slot then some x.2 else CaptureMemory.read slot rest

/-- A record written into a slot replaces whatever the slot held (R130). -/
def CaptureMemory.write (slot : Nat) (r : CaptureRecord) : CaptureMemory → CaptureMemory
  | [] => [(slot, r)]
  | x :: rest =>
    if slot < x.1 then (slot, r) :: x :: rest
    else if slot = x.1 then (slot, r) :: rest
    else x :: CaptureMemory.write slot r rest

/-! ## Recording (R131, R134, R135) -/

/-- The ring is recording: RUNNING or POSTFILL (R133). -/
def Ring.recording (r : Ring) : Bool := decide (r.state = .running) || decide (r.state = .postfill)

/-- The ring accepts a notice (R134). -/
def Ring.accepts (n : Notice) (r : Ring) : Bool :=
  r.recording
  && r.defn.verdictFilter.getLsbD n.verdict.code
  && r.defn.portFilter.getLsbD n.ingress.code
  && (decide (r.defn.flowFilter = none) || decide (r.defn.flowFilter = n.flow))

/-- The slot of record number `n` (R133). -/
def Ring.slot (r : Ring) (n : BitVec 32) : Nat := r.defn.base + n.toNat % r.defn.size

/-- The record a ring keeps of a notice: the first payload bytes up to its capture length (R131). -/
def Ring.keep (r : Ring) (n : Notice) : CaptureRecord :=
  { n with payload := n.payload.take (min r.defn.captureLength n.storedLength) }

/-- The runtime state after a write: the numbers move on, and the write may freeze the ring (R134, R135). -/
def Ring.advance (r : Ring) : Ring :=
  let remaining := r.remaining.map (· - 1)
  let filled := decide (r.defn.mode = .stop) && decide (r.next.toNat = r.defn.size - 1)
  let frozen := decide (r.state = .postfill) && decide (remaining = some 0) || filled
  { r with
    next := r.next + 1
    held := min (r.held + 1) r.defn.size
    state := if frozen then .frozen else r.state
    remaining := if frozen then none else remaining }

/-- The attention event of a ring that has frozen (R135). -/
def State.raiseFrozen (k : Fin 8) (s : State) : State := s.raiseEvent .ringFrozen (byte k.val)

/-- A ring after an event that may have frozen it: RING/FROZEN is raised where it did. -/
def State.putRing (k : Fin 8) (r : Ring) (s : State) : State :=
  let s := s.setRing k (some r)
  if r.state = .frozen then s.raiseFrozen k else s

/-- One ring takes a notice (R134). -/
def State.record (n : Notice) (k : Fin 8) (s : State) : State :=
  match s.ring k with
  | none => s
  | some r =>
    if r.accepts n then
      (s.setMemory (s.capture.memory.write (r.slot r.next) (r.keep n))).putRing k r.advance
    else s

/-- The capture unit takes a notice: every ring that accepts it is written in this event (R136). -/
def State.takeNotice (n : Notice) (s : State) : State := ringIndices.foldl (fun s k => s.record n k) s

/-! ## Triggers (R137, R143) -/

/-- A trigger's effect on a RUNNING ring; no other ring is affected (R137). -/
def Ring.trigger (r : Ring) : Ring :=
  if r.state = .running then
    if r.defn.postCount = 0 then { r with state := .frozen, remaining := none }
    else { r with state := .postfill, remaining := some r.defn.postCount }
  else r

/-- The ring's trigger matches an announcement (R137). -/
def Ring.matchesEvent (c : Cause) (object : Byte) (r : Ring) : Bool :=
  match r.defn.trigger with
  | none => false
  | some t => decide (t.cause = c) && (decide (t.object = none) || decide (t.object = some object))

/-- A RUNNING ring that matches an announcement is triggered by it; nothing else is (R137). -/
def State.triggerBy (c : Cause) (object : Byte) (k : Fin 8) (s : State) : State :=
  match s.ring k with
  | none => s
  | some r =>
    if decide (r.state = .running) && r.matchesEvent c object then s.putRing k r.trigger else s

/-- The capture unit takes the announcement of an attention event (R137). -/
def State.takeAnnounce (c : Cause) (object : Byte) (s : State) : State :=
  ringIndices.foldl (fun s k => s.triggerBy c object k) s

/-! ## The warm restart at the capture unit (R147) -/

/-- FROZEN rings are kept; every other defined ring is IDLE and empty. -/
def Ring.warm (r : Ring) : Ring :=
  if r.state = .frozen then r else { r with state := .idle, next := 0, held := 0, remaining := none }

end Sys2Proof.Machine
end

