-- ==== Sys2Proof/Machine/Attention.lean ====
section
/-! DEFINITION. The attention unit's list (chapter 6) and the reporter (chapter 7): taking an event, beginning,
repeating, completing and ending a report. -/
namespace Sys2Proof.Machine

/-! ## The list (R100 to R103, R106) -/

/-- The id after `n`, from 65535 to 1 (R106). -/
def nextRecordId (n : Nat) : Nat := if 65535 ≤ n then 1 else n + 1

/-- The first candidate from `c` on that is not in use; among one more candidate than there are ids in use, one
is free (R106). -/
def freshId (used : List Nat) : Nat → Nat → Nat
  | 0, c => c
  | k + 1, c => if used.contains c then freshId used k (nextRecordId c) else c

/-- The new record's place: after every record of the same or a more urgent rank (R101). -/
def insertRecord (r : AttentionRecord) : List AttentionRecord → List AttentionRecord
  | [] => [r]
  | x :: rest => if x.rank ≤ r.rank then x :: insertRecord r rest else r :: x :: rest

/-- The record stands for the condition of the event (R102). -/
def AttentionRecord.matchesEvent (e : AttentionEvent) (r : AttentionRecord) : Bool :=
  decide (r.cause = e.cause) && decide (r.object = e.object)

/-- The event added to its record (R102). -/
def AttentionRecord.add (e : AttentionEvent) (r : AttentionRecord) : AttentionRecord :=
  { r with count := if r.count < 255 then r.count + 1 else r.count, last := e.time, state := .unreported }

/-- The event added to the first record that matches it. -/
def addToRecord (e : AttentionEvent) : List AttentionRecord → List AttentionRecord
  | [] => []
  | x :: rest => if x.matchesEvent e then x.add e :: rest else x :: addToRecord e rest

/-- Capacity of the list (R100). -/
def listCapacity : Nat := 32

/-- Mask and rank of a cause (R99). -/
def Attention.setting (a : Attention) (c : Cause) : CauseSetting := a.causes[c.index]

/-- The event is screened out: its cause is masked, or its class is FLOW and its quiet setting is yes (R104). -/
def Attention.screens (a : Attention) (e : AttentionEvent) : Bool :=
  (a.setting e.cause).masked || (e.cause.isFlow && e.quiet == some true)

/-- The record an event creates: its given rank for TEST/FORCED, else the rank its cause has now (R99, R103). -/
def Attention.newRecord (a : Attention) (e : AttentionEvent) (id : Nat) : AttentionRecord where
  id := id
  cause := e.cause
  object := e.object
  rank := e.given.getD (a.setting e.cause).rank
  count := 1
  reportedCount := none
  first := e.time
  last := e.time
  state := .unreported

/-- The list takes an event: screened, added to its record, made into a new record, or lost (R102 to R104, R106). -/
def Attention.take (e : AttentionEvent) (a : Attention) : Taken × Attention :=
  if a.screens e then (.masked, a)
  else match a.records.find? (·.matchesEvent e) with
    | some r => (.added r.id, { a with records := addToRecord e a.records })
    | none =>
      if a.records.length < listCapacity then
        let used := a.records.map (·.id)
        let id := freshId used used.length a.nextId
        (.created id, { a with records := insertRecord (a.newRecord e id) a.records, nextId := nextRecordId id })
      else (.lost, { a with lost := if a.lost < 65535 then a.lost + 1 else a.lost })

/-! ## ATN frames (R118, R177) -/

/-- The item of a record in an ATN frame: ten bytes (R177). -/
def AttentionRecord.item (r : AttentionRecord) : List Byte :=
  be16 r.id ++ [r.cause.code, r.object, byte r.rank, byte r.count] ++ be32 r.last

/-- The payload of an ATN frame: the lost count, then an item for each record sent (R177). -/
def atnPayload (lost : Nat) (records : List AttentionRecord) : List Byte :=
  be16 lost ++ (records.map AttentionRecord.item).flatten

/-- The route map entry for an address (R24, R26). No entry stands for 127; nothing reads it. -/
def State.route (s : State) (a : Address) : Target :=
  if h : a.toNat < 127 then s.routes[a.toNat] else .drop

/-- The port the route map gives a generated ATN (R26). -/
def Target.atnPort : Target → Option Port
  | .default => some .u
  | .u => some .u
  | .d => some .d
  | .b => some .b
  | .drop => none

/-- A record as it is sent: REPORTED, its reported count set to the count sent (R117, R120). -/
def AttentionRecord.sent (r : AttentionRecord) : AttentionRecord :=
  { r with state := .reported, reportedCount := some r.count }

/-- The records that have one of the ids are changed. -/
def State.mapRecords (ids : List Nat) (f : AttentionRecord → AttentionRecord) (s : State) : State :=
  s.setAttention { s.attention with
    records := s.attention.records.map (fun r => if ids.contains r.id then f r else r) }

/-- Build, mark, offer and capture one ATN frame with the records of these ids, in list order (R118). -/
def State.sendReport (dest : Address) (ids : List Nat) (s : State) : State :=
  let records := s.attention.records.filter (fun r => ids.contains r.id)
  let f := Frame.build .atn dest s.station false 0 s.reporter.tag s.params.genHop
    (atnPayload s.attention.lost records)
  let s := s.mapRecords ids AttentionRecord.sent
  let s := match (s.route dest).atnPort with
    | some p => s.enqueue p ⟨f, .atn, false⟩
    | none => s
  s.offerGenerated none f

/-! ## The reporter (R116, R117, R120, R121, R126) -/

/-- Start the acknowledgement timer for REPORT_INTERVAL × 10 ms. -/
def State.ackExpiry (s : State) : Time := s.time + tenMs s.params.reportInterval

/-- Begin a report: at most four UNREPORTED records in list order, under the next tag (R117). -/
def State.beginReport (dest : Address) (s : State) : State :=
  let ids := ((s.attention.records.filter (fun r => decide (r.state = .unreported))).take 4).map (·.id)
  let s := s.setReporter {
    state := .waitAck
    tag := s.reporter.tag + 1
    outstanding := ids.map (fun i => ⟨i, false⟩)
    retries := 0
    timer := some s.ackExpiry }
  s.sendReport dest ids

/-- The reporter begins a report whenever it is IDLE, REPORT_ADDR is an address, the module is addressed and a
record is UNREPORTED (R117). -/
def State.pollReporter (s : State) : State :=
  match s.params.reportAddr with
  | none => s
  | some dest =>
    if s.reporter.state = .idle ∧ s.addressed ∧ s.attention.records.any (fun r => decide (r.state = .unreported))
    then s.beginReport dest else s

/-- The reporter in IDLE with nothing outstanding, the tag kept (R116). -/
def Reporter.toIdle (r : Reporter) : Reporter :=
  { r with state := .idle, outstanding := [], retries := 0, timer := none }

/-- The outstanding report ends without its acknowledgement: its records become UNREPORTED, with their reported
counts kept, and the reporter is IDLE (R121, R122). -/
def State.abandonReport (s : State) : State :=
  let ids := s.reporter.outstanding.map (·.id)
  let s := s.mapRecords ids (fun r => { r with state := .unreported })
  s.setReporter s.reporter.toIdle

/-- Leave STALLED for IDLE, and begin a new report at once if R117 allows (R121). In the other states nothing. -/
def State.leaveStall (s : State) : State :=
  if s.reporter.state = .stalled then s.abandonReport.pollReporter else s

/-- Each item of the outstanding report is acknowledged or names a record no longer on the list (R126). -/
def State.reportComplete (s : State) : Bool :=
  s.reporter.outstanding.all (fun i => i.acked || !(s.attention.records.any (fun r => decide (r.id = i.id))))

/-- What follows the acknowledgement of items: the stall ends (R121), or a complete report ends (R126); the next
report begins if R117 allows. -/
def State.afterAck (s : State) : State :=
  match s.reporter.state with
  | .stalled => s.leaveStall
  | .waitAck => if s.reportComplete then (s.setReporter s.reporter.toIdle).pollReporter else s
  | .idle => s.pollReporter

/-- Send the outstanding report again: the items not yet acknowledged whose records are on the list (R120). -/
def State.resendReport (dest : Address) (s : State) : State :=
  let ids := (s.reporter.outstanding.filter (fun i => !i.acked)).map (·.id)
  let s := s.setReporter { s.reporter with retries := s.reporter.retries + 1, timer := some s.ackExpiry }
  s.sendReport dest ids

/-- The attention unit takes an event: announced, screened, recorded; and the reporter begins a report where the
event made the last of its conditions hold (R104, R117). -/
def State.takeAttention (e : AttentionEvent) (s : State) : Taken × State :=
  let s := s.raise (.announce e.cause e.object)
  let (taken, a) := s.attention.take e
  (taken, (s.setAttention a).pollReporter)

/-- The state of the reporter after a WRITE_PARAM of REPORT_ADDR (R122). -/
def State.reportAddrWritten (s : State) : State :=
  match s.reporter.state with
  | .idle => s.pollReporter
  | .waitAck => s.abandonReport.pollReporter
  | .stalled => s.leaveStall

end Sys2Proof.Machine
end

