-- ==== Sys2Proof/Machine/Supervision.lean ====
section
/-! DEFINITION. Cyclic supervision (chapter 4): what an arriving CYC frame and a deadline expiry do to a flow entry. -/
namespace Sys2Proof.Machine

/-- The flow counters at 0 (R37). -/
def FlowCounters.zero : FlowCounters := ⟨0, 0, 0, 0, 0, 0, 0, 0, 0, 0, 0, 0, 0, 0, 0⟩

/-! ## An arriving cyclic frame (section 4.2) -/

/-- What step 4 finds (R62). -/
inductive SeqFinding where
  | duplicate
  | stale
  /-- The frame passes; `skipped` numbers are missing within the allowance. -/
  | passes (skipped : Nat)
  | breaks
  deriving DecidableEq, Repr

/-- The sequence step for a distance d and an allowance A (R62). -/
def seqFinding (d allowance : Nat) : SeqFinding :=
  if d = 0 then .duplicate
  else if 128 ≤ d then .stale
  else if d ≤ allowance + 1 then .passes (d - 1)
  else .breaks

/-- Step 4 at an entry: made under CHECK when a last SEQ is held (R62). -/
def Flow.sequence (f : Flow) (seq : Byte) : SeqFinding :=
  match f.defn.seqPolicy, f.lastSeq with
  | .check, some last => seqFinding (seq - last).toNat f.defn.gap
  | _, _ => .passes 0

/-- Step 3: made in LOCKED, OVERDUE and RECOVERING, the arrival is early when it lies before E less the early
tolerance (R61). -/
def Flow.isEarly (f : Flow) (t : Time) : Bool :=
  match f.state, f.schedule with
  | .locked, some x => before t (x.expected - ticks f.defn.early)
  | .overdue, some x => before t (x.expected - ticks f.defn.early)
  | .recovering, some x => before t (x.expected - ticks f.defn.early)
  | _, _ => false

/-- The state effect of an acceptance (R64): state, good count, whether `late` counts, whether FLOW/RECOVERED. -/
def Flow.acceptState (f : Flow) : FlowState × Nat × Bool × Bool :=
  match f.state with
  | .disabled => (.locked, 0, false, false)
  | .armed => (.locked, 0, false, false)
  | .locked => (.locked, 0, false, false)
  | .overdue => (.locked, 0, true, false)
  | .lost => if f.defn.recovery ≤ 1 then (.locked, 0, false, true) else (.recovering, 1, false, false)
  | .recovering =>
    if f.defn.recovery ≤ f.good + 1 then (.locked, 0, false, true) else (.recovering, f.good + 1, false, false)

/-- E and D from a new expected time (R63, R68). -/
def FlowDef.schedule (d : FlowDef) (e : Time) : Schedule := ⟨e, e + ticks d.late⟩

/-- Step 5: the frame is accepted (R63, R64). -/
def Flow.accept (t : Time) (x : Frame) (f : Flow) : Flow :=
  let (state, good, late, _) := f.acceptState
  { f with
    state, good, misses := 0, subs := 0
    lastSeq := some x.seq
    holdContent := if f.holdSlot.isSome then some x.payload else f.holdContent
    schedule := some (f.defn.schedule (t + ticks f.defn.period))
    counters := { f.counters with
      accepted := f.counters.accepted + 1
      late := if late then f.counters.late + 1 else f.counters.late } }

/-- The acceptance raises FLOW/RECOVERED (R64). -/
def Flow.recovers (f : Flow) : Bool := f.acceptState.2.2.2

/-- Step 6: forwarded or gated (R65). -/
def Flow.gateCount (gateOpen : Bool) (f : Flow) : Flow :=
  { f with counters :=
      if gateOpen then { f.counters with forwarded := f.counters.forwarded + 1 }
      else { f.counters with gated := f.counters.gated + 1 } }

/-- What supervision answers: the entry afterwards, the attention events in order, the verdict (R58, R66). -/
structure Supervised where
  flow : Flow
  causes : List Cause
  verdict : Verdict
  deriving DecidableEq, Repr

/-- Steps 5 and 6 for a frame that passed step 4, with the causes raised before (R63 to R65). -/
def Flow.acceptAndGate (t : Time) (gateOpen : Bool) (x : Frame) (causes : List Cause) (f : Flow) : Supervised :=
  { flow := (f.accept t x).gateCount gateOpen
    causes := causes ++ (if f.recovers then [.flowRecovered] else [])
    verdict := if gateOpen then .forwarded else .dropGated }

/-- Steps 4 to 6, with the causes raised before (R62). -/
def Flow.fromSequence (t : Time) (gateOpen : Bool) (x : Frame) (causes : List Cause) (f : Flow) : Supervised :=
  match f.sequence x.seq with
  | .duplicate => ⟨{ f with counters := { f.counters with duplicate := f.counters.duplicate + 1 } }, causes, .dropDup⟩
  | .stale => ⟨{ f with counters := { f.counters with stale := f.counters.stale + 1 } }, causes, .dropStale⟩
  | .passes n =>
    Flow.acceptAndGate t gateOpen x causes
      { f with counters := { f.counters with skipped := f.counters.skipped + BitVec.ofNat 32 n } }
  | .breaks =>
    Flow.acceptAndGate t gateOpen x (causes ++ [.flowSeqBreak])
      { f with counters := { f.counters with breaks := f.counters.breaks + 1 } }

/-- A CYC frame handed to supervision (R58): the six steps in order. -/
def Flow.onArrival (t : Time) (gateOpen : Bool) (p : Port) (x : Frame) (f : Flow) : Supervised :=
  if p ≠ f.defn.ingress then
    ⟨{ f with counters := { f.counters with wrongPort := f.counters.wrongPort + 1 } }, [.flowWrongPort], .dropWrongPort⟩
  else if x.payload.length < f.defn.lenMin ∨ f.defn.lenMax < x.payload.length then
    ⟨{ f with counters := { f.counters with lengthFaults := f.counters.lengthFaults + 1 } }, [.flowLength], .dropLength⟩
  else if f.isEarly t then
    let g := { f with counters := { f.counters with early := f.counters.early + 1 } }
    match f.defn.earlyAction with
    | .drop => ⟨g, [.flowEarly], .dropEarly⟩
    | .pass => g.fromSequence t gateOpen x [.flowEarly]
  else f.fromSequence t gateOpen x []

/-- Raise attention events of one flow in their order (R66). -/
def State.raiseFlows (i : Fin 64) (quiet : Bool) (cs : List Cause) (s : State) : State :=
  cs.foldl (fun s c => s.raiseFlow i quiet c) s

/-- A forwarded copy offered to each port of an egress set (R25, R65). -/
def State.forwardTo (set : BitVec 3) (x : Frame) (s : State) : State :=
  s.offerAll set ⟨x.forwarded, .forward, false⟩

/-- Supervision of a matched CYC arrival at entry `i` (R21, R58, R65). Its attention events and its copies are events of
their own, and the spec orders neither before the other (R86, R87, R105): which is taken first is free (log 3). -/
def State.supervise (i : Fin 64) (f : Flow) (p : Port) (x : Frame) (s : State) : Verdict × State :=
  let r := f.onArrival s.time (s.gateOpen f.defn) p x
  let s := (s.setFlow i (some r.flow)).raiseFlows i f.defn.quiet r.causes
  (r.verdict, if r.verdict = .forwarded then s.forwardTo f.defn.egress x else s)

/-! ## Deadline expiry (section 4.3) and generated frames (section 4.5) -/

/-- The SEQ of a substitute or cut frame (R74, R75). An entry without last SEQ has no expiry (R36). -/
def Flow.generatedSeq (f : Flow) : Byte := f.lastSeq.getD 0 + byte f.misses

/-- A substitute frame (R74). -/
def Flow.substitute (hop : BitVec 4) (content : List Byte) (f : Flow) : Frame :=
  Frame.build .sub f.defn.dst f.defn.src false f.defn.ch f.generatedSeq hop content

/-- A cut frame (R75). -/
def Flow.cutFrame (hop : BitVec 4) (f : Flow) : Frame :=
  Frame.build .sub f.defn.dst f.defn.src true f.defn.ch f.generatedSeq hop []

/-- What an expiry does: the entry afterwards, the attention event, the frame generated. -/
structure Expired where
  flow : Flow
  cause : Option Cause
  frame : Option Frame
  deriving DecidableEq, Repr

/-- The entry enters LOST, with a cut frame under HOLD_THEN_CUT (R69, R70, R75). -/
def Flow.lose (hop : BitVec 4) (f : Flow) : Expired :=
  let g := { f with state := .lost, schedule := none, good := 0 }
  match f.defn.missPolicy with
  | .holdThenCut =>
    ⟨{ g with counters := { g.counters with cuts := g.counters.cuts + 1 } }, some .flowLost, some (g.cutFrame hop)⟩
  | .hold => ⟨g, some .flowLost, none⟩
  | .report => ⟨g, some .flowLost, none⟩

/-- The held payload, when a substitute is to be sent (R73). -/
def Flow.toSubstitute (gateOpen : Bool) (f : Flow) : Option (List Byte) :=
  if f.defn.needsHold && decide (f.subs < f.defn.subLimit) && gateOpen then f.holdContent else none

/-- A miss in LOCKED or OVERDUE, with E as it stood (R68, R69, R73). -/
def Flow.miss (gateOpen : Bool) (hop : BitVec 4) (e : Time) (f : Flow) : Expired :=
  let g := { f with misses := f.misses + 1 }
  if g.misses < f.defn.lossThreshold then
    let cause := if f.state = .locked then some Cause.flowOverdue else none
    let g := { g with state := .overdue, schedule := some (f.defn.schedule (e + ticks f.defn.period)) }
    match g.toSubstitute gateOpen with
    | some content =>
      ⟨{ g with
          subs := g.subs + 1
          counters := { g.counters with substituted := g.counters.substituted + 1 } },
        cause, some (g.substitute hop content)⟩
    | none => ⟨g, cause, none⟩
  else g.lose hop

/-- The expiry of a pending deadline (R67): the missed counter, then R68 to R70 by the state. In DISABLED, ARMED
and LOST none is pending (R56). -/
def Flow.onExpiry (gateOpen : Bool) (hop : BitVec 4) (f : Flow) : Option Expired :=
  let g := { f with counters := { f.counters with missed := f.counters.missed + 1 } }
  match f.state, f.schedule with
  | .locked, some x => some (g.miss gateOpen hop x.expected)
  | .overdue, some x => some (g.miss gateOpen hop x.expected)
  | .recovering, some _ => some (Flow.lose hop { g with misses := f.defn.lossThreshold })
  | _, _ => none

/-- A substitute or cut frame is offered to the URGENT queue of each egress port and to the capture unit (R76). -/
def State.offerSub (i : Fin 64) (set : BitVec 3) (x : Frame) (s : State) : State :=
  (s.offerAll set ⟨x, .sub, false⟩).offerGenerated (some i) x

/-- The deadline expiry of entry `i`, at its deadline (R67). Where none is pending it does not occur. The attention event
and the offers of the generated frame are events of their own, in either order (R76, R86; log 3). -/
def State.expire (i : Fin 64) (s : State) : State :=
  match s.flow i with
  | none => s
  | some f =>
    match f.schedule, f.onExpiry (s.gateOpen f.defn) s.params.genHop with
    | some x, some r =>
      let s := ((s.elapseTo x.deadline).setFlow i (some r.flow)).raiseFlows i f.defn.quiet r.cause.toList
      match r.frame with
      | some y => s.offerSub i f.defn.egress y
      | none => s
    | _, _ => s

end Sys2Proof.Machine
end

