-- ==== Sys2Proof/Machine/Agent.lean ====
section
/-! DEFINITION. What the management agent does for every command (chapter 10): the checks of owner and length, the
lease, the response cache, responses, and the admission of a request (R18). -/
namespace Sys2Proof.Machine

/-! ## Checks and answers (R157) -/

/-- A command refused: it changes nothing and carries no results (R157). -/
def refuse (st : Status) (s : State) : Reply × State := (.answer st [], s)

/-- A command executed with status OK. -/
def answerOk (results : List Byte) (s : State) : Reply × State := (.answer .ok results, s)

/-- The requester holds the claim at this moment (R161). -/
def State.holds (s : State) (r : Request) : Bool := decide (s.agent.holder = some r.requester)

/-- Step 2 of R157: the command needs the claim. -/
def owned (r : Request) (s : State) (k : Reply × State) : Reply × State :=
  if s.holds r then k else refuse .notOwner s

/-- Step 3 of R157: the command has this many operand bytes (R174). -/
def sized (n : Nat) (r : Request) (s : State) (k : Reply × State) : Reply × State :=
  if r.operands.length = n then k else refuse .badLength s

/-- The lease starts (again) for LEASE_TIME × 10 ms, with the parameter as it stands (R163). -/
def State.restartLease (s : State) : State :=
  s.setAgent { s.agent with lease := some (s.time + tenMs s.params.leaseTime) }

/-- A write command executed for the holder: it restarts the lease (R163). -/
def executed (results : List Byte) (s : State) : Reply × State := answerOk results s.restartLease

/-- The holder's address as results give it, 0xFF for none (R175, R179). -/
def State.holderByte (s : State) : Byte := byte (addressNat s.agent.holder)

/-! ## The response cache (R159) -/

/-- Capacity of the cache. -/
def cacheCapacity : Nat := 4

/-- An entry written: it replaces the requester's own entry, or takes a free place, or the place of the least
recently used entry; it becomes the most recently used (R159). -/
def cacheWrite (e : CacheEntry) (cache : List CacheEntry) : List CacheEntry :=
  e :: (cache.filter (fun x => decide (x.requester ≠ e.requester))).take (cacheCapacity - 1)

/-- The entry that answers a retry: same requester, tag and command code (R18, R159). -/
def cacheHit (r : Request) (cache : List CacheEntry) : Option CacheEntry :=
  cache.find? (fun x => decide (x.requester = r.requester ∧ x.tag = r.tag ∧ x.code = r.code))

/-- An entry used becomes the most recently used (R159). -/
def cacheUse (e : CacheEntry) (cache : List CacheEntry) : List CacheEntry := e :: cache.erase e

def State.setCache (c : List CacheEntry) (s : State) : State := s.setAgent { s.agent with cache := c }

/-! ## Responses (R158) -/

/-- The MRS frame that answers a request with a payload (R18, R158). -/
def State.mrsFrame (r : Request) (payload : List Byte) (s : State) : Frame :=
  Frame.build .mrs r.requester s.station false 0 r.tag s.params.genHop payload

/-- Build the response to a request, write it into the cache, offer it to the URGENT queue of the ingress port and offer
its notice (R158, R159). The queue takes the offer in the completion event, before the agent takes its next request
(R156, R158; log 13). -/
def State.respond (r : Request) (st : Status) (results : List Byte) (mark : Bool) (s : State) : State :=
  let payload := r.code :: st.code :: results
  let f := s.mrsFrame r payload
  ((s.setCache (cacheWrite ⟨r.requester, r.tag, r.code, payload⟩ s.agent.cache)).enqueue
    r.ingress ⟨f, .mrs, mark⟩).offerGenerated none f

/-- A cached response sent again for a retry: the entry becomes the most recently used, and a new frame and its notice
are offered (R18, R159). -/
def State.resend (r : Request) (e : CacheEntry) (s : State) : State :=
  let f := s.mrsFrame r e.payload
  ((s.setCache (cacheUse e s.agent.cache)).raise (.offer r.ingress ⟨f, .mrs, false⟩)).offerGenerated none f

/-! ## Admission (R18, R160, R172) -/

/-- Capacity of the request queue (R155). -/
def requestCapacity : Nat := 4

/-- Same requester and same tag. -/
def Request.sameTag (r x : Request) : Bool := decide (x.requester = r.requester ∧ x.tag = r.tag)

/-- A request with the same requester and tag is in flight: queued, in service or sweep-pending (R160). In
RESTART_WAIT no request is in service, its response being built. -/
def Agent.inFlight (a : Agent) (r : Request) : Bool :=
  a.queue.any r.sameTag
  || (match a.service with
      | .serving x _ _ => r.sameTag x
      | .idle => false
      | .restartWait => false)
  || (match a.sweepPending with
      | some x => r.sameTag x
      | none => false)

/-- The CLEAR_TABLE request of a sweep is in flight until the sweep's response is built (R51, R160). -/
def State.inFlight (s : State) (r : Request) : Bool :=
  s.agent.inFlight r || (s.sweep.any (fun w => r.sameTag w.request))

/-- A request taken at the local stage, handled against the cache and the queue in the order of R18. `report`: a
full queue raises MGMT/REQUEST_DROPPED, which it does not for a broadcast DISCOVER (R19). -/
def State.admission (r : Request) (report : Bool) (s : State) : Verdict × State :=
  match cacheHit r s.agent.cache with
  | some e => (.local, s.resend r e)
  | none =>
    if s.inFlight r then (.dropMgmt, s)
    else if s.agent.queue.length < requestCapacity then
      (.local, s.setAgent { s.agent with queue := s.agent.queue ++ [r] })
    else (.dropMgmt, if report then s.raiseEvent .mgmtRequestDropped (r.requester.setWidth 8) else s)

/-! ## Reading one entry of the flow table (R40) -/

/-- Steps 3 and 4 of R40 for a command that writes the table: BAD_INDEX, then BUSY during a sweep. -/
def onEntry (index : Byte) (s : State) (k : Fin 64 → Reply × State) : Reply × State :=
  if h : index.toNat < 64 then
    if s.sweep.isSome then refuse .busy s else k ⟨index.toNat, h⟩
  else refuse .badIndex s

/-- Step 3 of R139: BAD_INDEX for a ring number above 7. -/
def onRing (number : Byte) (s : State) (k : Fin 8 → Reply × State) : Reply × State :=
  if h : number.toNat < 8 then k ⟨number.toNat, h⟩ else refuse .badIndex s

end Sys2Proof.Machine
end

