-- ==== Sys2Proof/Machine/FlowCommands.lean ====
section
/-! DEFINITION. The management commands on the flow table (section 3.6) and the sweep (section 3.7). -/
namespace Sys2Proof.Machine

/-! ## Keys and hold slots -/

/-- Another valid entry carries the key of a definition (R41). -/
def State.keyTaken (s : State) (i : Fin 64) (d : FlowDef) : Bool :=
  flowIndices.any (fun j => decide (j ≠ i) && (s.flow j).any (fun f => f.defn.sameKey d))

/-- The slot is assigned to an entry (R38). -/
def State.slotTaken (s : State) (k : Fin 16) : Bool :=
  flowIndices.any (fun j => (s.flow j).any (fun f => decide (f.holdSlot = some k)))

/-- The lowest-numbered free slot (R38). -/
def State.freeSlot (s : State) : Option (Fin 16) := (List.finRange 16).find? (fun k => !s.slotTaken k)

/-- The hold slot an entry has. -/
def State.slotOf (s : State) (i : Fin 64) : Option (Fin 16) := (s.flow i).bind Flow.holdSlot

/-- The hold slot in results, 0xFF for absent (R175). -/
def slotByte (k : Option (Fin 16)) : Byte := orFF (k.map (fun x => byte x.val))

/-- An entry just loaded: DISABLED, every optional field absent but the slot, counts and counters 0 (R36, R41). -/
def Flow.loaded (d : FlowDef) (slot : Option (Fin 16)) : Flow where
  defn := d
  state := .disabled
  schedule := none
  lastSeq := none
  misses := 0
  good := 0
  subs := 0
  holdSlot := slot
  holdContent := none
  counters := .zero

/-! ## The commands -/

/-- LOAD_FLOW after its checks on state and values: the key, the hold pool, the load (R41). -/
def loadDefinition (i : Fin 64) (d : FlowDef) (s : State) : Reply × State :=
  if s.keyTaken i d then refuse .duplicateKey s
  else if d.needsHold then
    match (s.slotOf i).or s.freeSlot with
    | none => refuse .noHoldSlot s
    | some k => executed [byte i.val, slotByte (some k)] (s.setFlow i (some (.loaded d (some k))))
  else executed [byte i.val, slotByte none] (s.setFlow i (some (.loaded d none)))

/-- LOAD_FLOW (R41). -/
def runLoadFlow (r : Request) (s : State) : Reply × State :=
  owned r s <| sized 24 r s <| onEntry (byteAt r.operands 0) s fun i =>
    if (s.flow i).any (fun f => decide (f.state ≠ .disabled)) then refuse .flowState s
    else match FlowDef.ofBytes (r.operands.drop 1) with
      | none => refuse .badValue s
      | some d => if d.avoids s.station then loadDefinition i d s else refuse .badValue s

/-- E and D in results: a presence byte, then E and D, 0 when absent (R175). -/
def scheduleBytes : Option Schedule → List Byte
  | none => 0 :: (be32 0 ++ be32 0)
  | some x => 1 :: (be32 x.expected ++ be32 x.deadline)

/-- RETIME_FLOW (R42). -/
def runRetimeFlow (r : Request) (s : State) : Reply × State :=
  owned r s <| match r.operands with
  | [index, p1, p0, e1, e0, l1, l0] => onEntry index s fun i =>
    match s.flow i with
    | none => refuse .flowState s
    | some f =>
      let period := nat16 p1 p0
      let early := nat16 e1 e0
      let late := nat16 l1 l0
      if 1 ≤ period ∧ early ≤ period - 1 ∧ late ≤ period - 1 then
        executed (byte i.val :: f.state.code :: scheduleBytes f.schedule)
          (s.setFlow i (some { f with defn := { f.defn with period, early, late } }))
      else refuse .badValue s
  | _ => refuse .badLength s

/-- An entry stopped or armed: no schedule, no last SEQ, counts 0 (R36, R44, R45). -/
def Flow.cleared (st : FlowState) (f : Flow) : Flow :=
  { f with state := st, schedule := none, lastSeq := none, misses := 0, good := 0, subs := 0 }

/-- ARM_FLOW (R44). -/
def runArmFlow (r : Request) (s : State) : Reply × State :=
  owned r s <| match r.operands with
  | [index] => onEntry index s fun i =>
    match s.flow i with
    | none => refuse .flowState s
    | some f =>
      if f.state = .disabled then
        executed [byte i.val, FlowState.armed.code]
          (s.setFlow i (some { f.cleared .armed with holdContent := none }))
      else refuse .flowState s
  | _ => refuse .badLength s

/-- DISARM_FLOW (R45). -/
def runDisarmFlow (r : Request) (s : State) : Reply × State :=
  owned r s <| match r.operands with
  | [index] => onEntry index s fun i =>
    match s.flow i with
    | none => refuse .flowState s
    | some f =>
      executed [byte i.val, f.state.code]
        (if f.state = .disabled then s else s.setFlow i (some (f.cleared .disabled)))
  | _ => refuse .badLength s

/-- DROP_FLOW (R46). -/
def runDropFlow (r : Request) (s : State) : Reply × State :=
  owned r s <| match r.operands with
  | [index] => onEntry index s fun i =>
    match s.flow i with
    | none => refuse .flowState s
    | some f =>
      if f.state = .disabled then executed [byte i.val, slotByte f.holdSlot] (s.setFlow i none)
      else refuse .flowState s
  | _ => refuse .badLength s

/-- The three parts of READ_FLOW (R47, R179). -/
def Flow.part (f : Flow) : Nat → List Byte
  | 0 =>
    f.defn.bytes ++ [f.state.code] ++ scheduleBytes f.schedule
    ++ (match f.lastSeq with
        | none => [0, 0]
        | some q => [1, q])
    ++ [byte f.misses, byte f.good, byte f.subs, slotByte f.holdSlot,
        orFF (f.holdContent.map (fun x => byte x.length))]
  | 1 =>
    let c := f.counters
    be32 c.accepted ++ be32 c.forwarded ++ be32 c.gated ++ be32 c.early ++ be32 c.late ++ be32 c.missed
    ++ be32 c.substituted ++ be32 c.cuts
  | _ =>
    let c := f.counters
    be32 c.duplicate ++ be32 c.stale ++ be32 c.skipped ++ be32 c.breaks ++ be32 c.wrongPort
    ++ be32 c.lengthFaults ++ be32 c.subSeen

/-- READ_FLOW, once its owner and length are checked (R40, R47, R48). It is served during a sweep. -/
def readFlowPart (index part : Byte) (clear : Option Bool) (s : State) : Reply × State :=
  if h : index.toNat < 64 then
    let i : Fin 64 := ⟨index.toNat, h⟩
    match clear with
    | none => refuse .badValue s
    | some clear =>
      if 2 < part.toNat then refuse .badValue s
      else
        let done := fun results s => if clear then executed results s else answerOk results s
        match s.flow i with
        | none => done [index, 0] s
        | some f =>
          done (index :: 1 :: f.part part.toNat)
            (if clear then s.setFlow i (some { f with counters := .zero }) else s)
  else refuse .badIndex s

/-- READ_FLOW: the claim is needed where the third operand byte is present and 1 (R157). -/
def runReadFlow (r : Request) (s : State) : Reply × State :=
  if r.operands[2]? = some 1 ∧ !s.holds r then refuse .notOwner s
  else match r.operands with
    | [index, part, clear] => readFlowPart index part (boolOfByte clear) s
    | _ => refuse .badLength s

/-- CLEAR_TABLE: the sweep starts, and no response is built yet (R51). -/
def runClearTable (r : Request) (s : State) : Reply × State :=
  owned r s <| sized 0 r s <|
    if s.sweep.isSome then refuse .busy s
    else (.sweeping, (s.setSweep (some ⟨s.time, 0, 0, r⟩)).restartLease)

/-! ## The sweep (R52) -/

/-- The TIME of the sweep's next visit: S + 2 × (k + 1) µs (R51). -/
def Sweep.nextVisit (w : Sweep) : Time := w.start + BitVec.ofNat 32 (2 * (w.next.val + 1))

/-- How many entries the sweep has made invalid once it has visited entry `next`. -/
def Sweep.removedAfter (w : Sweep) (visited : Option Flow) : Nat :=
  if visited.isSome then w.removed + 1 else w.removed

/-- The sweep's next visit: the entry becomes invalid; at entry 63 the response is built (R52). -/
def State.visit (s : State) : State :=
  match s.sweep with
  | none => s
  | some w =>
    let s := s.elapseTo w.nextVisit
    let removed := w.removedAfter (s.flow w.next)
    let s := s.setFlow w.next none
    if h : w.next.val + 1 < 64 then s.setSweep (some { w with next := ⟨w.next.val + 1, h⟩, removed := removed })
    else
      ((s.setSweep none).setAgent { s.agent with sweepPending := none }).respond w.request .ok [byte removed] false

end Sys2Proof.Machine
end

