-- ==== Sys2Proof/Machine/PortCommands.lean ====
section
/-! DEFINITION. The management commands on ports, counters and the route map (R12, R30 to R32). -/
namespace Sys2Proof.Machine

/-! ## PORT_CONTROL (R12, R93, R94) -/

/-- The frame is of origin SUB, which a BLOCK removes from URGENT (R93). -/
def QueueEntry.isSub (e : QueueEntry) : Bool := decide (e.origin = .sub)

/-- BLOCK: on an ENABLED port the NORMAL frames and the queued SUB frames are removed and counted (R93). -/
def PortState.block (p : PortState) : PortState :=
  match p.admin with
  | .blocked => p
  | .enabled =>
    { p with
      admin := .blocked
      normal := []
      urgent := p.urgent.filter (fun e => !e.isSub)
      blocked := p.blocked + BitVec.ofNat 32 (p.normal.length + (p.urgent.filter QueueEntry.isSub).length) }

/-- UNBLOCK (R94). -/
def PortState.unblock (p : PortState) : PortState := { p with admin := .enabled }

/-- Line state and admin state of the three ports, port by port (R12; layout: log 9). -/
def State.portStates (s : State) : List Byte :=
  allPorts.flatMap (fun p => [(s.port p).line.code, (s.port p).admin.code])

/-- The results are read after the command (R12). -/
def executedPorts (s : State) : Reply × State := executed s.portStates s

/-- PORT_CONTROL (R12): action 0 BLOCK, 1 UNBLOCK. -/
def runPortControl (r : Request) (s : State) : Reply × State :=
  owned r s <| match r.operands with
  | [port, action] =>
    match portOfByte port with
    | none => refuse .badValue s
    | some p =>
      if action = 0 then executedPorts (s.setPort p (s.port p).block)
      else if action = 1 then executedPorts (s.setPort p (s.port p).unblock)
      else refuse .badValue s
  | _ => refuse .badLength s

/-! ## READ_COUNTERS (R32) -/

/-- A verdict counter in results. -/
def PortState.verdictBytes (p : PortState) (i : Fin 15) : List Byte := be32 p.verdicts[i]

/-- The counters of a group, in the order of R32. -/
def PortState.group (p : PortState) : Nat → List Byte
  | 0 => be32 p.transmitted ++ be32 p.aborted ++ be32 p.fragments ++ be32 p.full ++ be32 p.blocked ++ be32 p.offline
  | 1 => ([0, 1, 2, 3, 4, 5, 6, 7] : List (Fin 15)).flatMap p.verdictBytes
  | _ => ([8, 9, 10, 11, 12, 13, 14] : List (Fin 15)).flatMap p.verdictBytes

/-- The clear of a group: group 0 its six counters, group 1 or 2 all fifteen verdict counters (R32). -/
def PortState.clearGroup (p : PortState) : Nat → PortState
  | 0 => { p with transmitted := 0, aborted := 0, fragments := 0, full := 0, blocked := 0, offline := 0 }
  | _ => { p with verdicts := .replicate 15 0 }

/-- READ_COUNTERS (R32): the claim is needed where the third operand byte is present and 1 (R157). -/
def runReadCounters (r : Request) (s : State) : Reply × State :=
  if r.operands[2]? = some 1 ∧ !s.holds r then refuse .notOwner s
  else match r.operands with
    | [port, group, clear] =>
      match portOfByte port, boolOfByte clear with
      | some p, some c =>
        if 2 < group.toNat then refuse .badValue s
        else
          let results := port :: group :: (s.port p).group group.toNat
          if c then executed results (s.setPort p ((s.port p).clearGroup group.toNat)) else answerOk results s
      | _, _ => refuse .badValue s
    | _ => refuse .badLength s

/-! ## The route map (R30, R31) -/

/-- The route map with a target written into every entry from `first` to `last` (R30). -/
def routesSet (first last : Nat) (t : Target) (routes : Vector Target 127) : Vector Target 127 :=
  Vector.ofFn (fun i : Fin 127 => if first ≤ i.val ∧ i.val ≤ last then t else routes[i])

/-- SET_ROUTE (R30). -/
def runSetRoute (r : Request) (s : State) : Reply × State :=
  owned r s <| match r.operands with
  | [first, last, target] =>
    if 126 < first.toNat ∨ 126 < last.toNat then refuse .badIndex s
    else match Target.ofByte target with
      | none => refuse .badValue s
      | some t =>
        if last.toNat < first.toNat then refuse .badValue s
        else executed [] { s with routes := routesSet first.toNat last.toNat t s.routes }
  | _ => refuse .badLength s

/-- The targets of a run of route map entries, ending at address 126 at the latest (R31). -/
def State.routeRun (s : State) (first count : Nat) : List Byte :=
  ((s.routes.toList.drop first).take count).map Target.code

/-- READ_ROUTE (R31). -/
def runReadRoute (r : Request) (s : State) : Reply × State :=
  match r.operands with
  | [first, count] =>
    if 126 < first.toNat then refuse .badIndex s
    else if count.toNat = 0 ∨ 56 < count.toNat then refuse .badValue s
    else
      let run := s.routeRun first.toNat count.toNat
      answerOk (first :: byte run.length :: run) s
  | _ => refuse .badLength s

end Sys2Proof.Machine
end

