-- ==== Sys2Proof/Machine/AttentionCommands.lean ====
section
/-! DEFINITION. The management commands on the attention list and the reporter (section 6.7, section 7.4). -/
namespace Sys2Proof.Machine

/-! ## READ_ATTENTION (R110, R177) -/

/-- The report state byte: 0 UNREPORTED, 1 REPORTED (R177). -/
def ReportState.code : ReportState → Byte
  | .unreported => 0
  | .reported => 1

/-- A record in READ_ATTENTION: 16 bytes (R177); a reported count that is absent is sent as 0 (R175). -/
def AttentionRecord.bytes (r : AttentionRecord) : List Byte :=
  r.item ++ [byte (r.reportedCount.getD 0)] ++ be32 r.first ++ [r.state.code]

/-- READ_ATTENTION (R110). The state of ALERT is that of its condition in the command event. The spec gives no code for it:
1 for asserted and 0 for deasserted are the model's choice (log 9). -/
def runReadAttention (r : Request) (s : State) : Reply × State :=
  match r.operands with
  | [first, count] =>
    if 31 < first.toNat then refuse .badIndex s
    else if count.toNat = 0 ∨ 3 < count.toNat then refuse .badValue s
    else
      let window := (s.attention.records.drop first.toNat).take count.toNat
      answerOk
        ([byte s.attention.records.length] ++ be16 s.attention.lost
          ++ [s.reporter.state.code, boolByte s.alertCondition, first, byte window.length]
          ++ (window.map AttentionRecord.bytes).flatten) s
  | _ => refuse .badLength s

/-! ## ACK_ATTENTION (R123 to R126) -/

/-- What an item finds (R124): its status, the count after it, and the record afterwards if it stays. -/
structure AckFinding where
  status : Status
  count : Nat
  record : Option AttentionRecord
  deriving DecidableEq, Repr

/-- An item with count `c` against the record it names (R124). -/
def AttentionRecord.ack (c : Nat) (r : AttentionRecord) : AckFinding :=
  if c = 0 ∨ r.count < c then ⟨.badValue, 0, some r⟩
  else if c = r.count then
    if r.count = 255 ∧ r.state = .unreported then ⟨.ok, 1, some { r with count := 1 }⟩
    else ⟨.ok, 0, none⟩
  else ⟨.ok, r.count - c, some { r with count := r.count - c, state := .unreported }⟩

/-- The list with the record of an id replaced or removed. -/
def replaceRecord (id : Nat) (x : Option AttentionRecord) : List AttentionRecord → List AttentionRecord
  | [] => []
  | r :: rest => if r.id = id then x.toList ++ rest else r :: replaceRecord id x rest

/-- The outstanding report with an item's acknowledged mark at yes (R124). -/
def markAcked (id : Nat) (items : List ReportItem) : List ReportItem :=
  items.map (fun i => if i.id = id then { i with acked := true } else i)

/-- One item: the list, the marks, and its bytes in the results: id, status, count after it (R124, R178). -/
def State.ackItem (id c : Nat) (s : State) : List Byte × State :=
  match s.attention.records.find? (fun r => decide (r.id = id)) with
  | none => (be16 id ++ [if c = 0 then Status.badValue.code else Status.unknownId.code, 0], s)
  | some r =>
    let x := r.ack c
    let bytes := be16 id ++ [x.status.code, byte x.count]
    if x.status = .ok then
      (bytes,
        (s.setAttention { s.attention with records := replaceRecord id x.record s.attention.records }).setReporter
          { s.reporter with outstanding := markAcked id s.reporter.outstanding })
    else (bytes, s)

/-- The items one after another, each of three bytes; each sees the list the items before it left (R124). -/
def State.ackItems : List Byte → State → List Byte × State
  | h :: l :: c :: rest, s =>
    let (bytes, s) := s.ackItem (nat16 h l) c.toNat
    let (more, s) := s.ackItems rest
    (bytes ++ more, s)
  | _, s => ([], s)

/-- The lost-count acknowledgement (R125). -/
def State.ackLost (n : Nat) (s : State) : State :=
  s.setAttention { s.attention with lost := s.attention.lost - n }

/-- ACK_ATTENTION is accepted from the holder and from REPORT_ADDR (R123). -/
def State.mayAck (s : State) (r : Request) : Bool :=
  s.holds r || decide (s.params.reportAddr = some r.requester)

/-- ACK_ATTENTION, once its owner and its length are checked: items, lost count, then completion or stall exit;
the lease restarts when the requester holds the claim (R123 to R126). -/
def ackList (r : Request) (lost n : Nat) (items : List Byte) (s : State) : Reply × State :=
  let (results, s) := s.ackItems items
  let s := (s.ackLost lost).afterAck
  let results := byte n :: results ++ be16 s.attention.lost ++ [s.reporter.state.code]
  if s.holds r then executed results s else answerOk results s

/-- ACK_ATTENTION (R123, R174). -/
def runAckAttention (r : Request) (s : State) : Reply × State :=
  if s.mayAck r then
    match r.operands with
    | l1 :: l0 :: n :: items =>
      if items.length ≠ 3 * n.toNat then refuse .badLength s
      else if 8 < n.toNat then refuse .badValue s
      else ackList r (nat16 l1 l0) n.toNat items s
    | _ => refuse .badLength s
  else refuse .notOwner s

/-! ## CLEAR_ATTENTION, SET_CAUSE, FORCE_ATTENTION (R112 to R114) -/

/-- CLEAR_ATTENTION (R112): the outstanding report is complete in WAIT_ACK and in STALLED (R126). -/
def runClearAttention (r : Request) (s : State) : Reply × State :=
  owned r s <| sized 0 r s <|
    executed (byte s.attention.records.length :: be16 s.attention.lost)
      ((s.setAttention { s.attention with records := [], lost := 0 }).setReporter s.reporter.toIdle)

/-- SET_CAUSE (R113). -/
def runSetCause (r : Request) (s : State) : Reply × State :=
  owned r s <| match r.operands with
  | [code, mask, rank] =>
    match Cause.ofCode code, boolOfByte mask with
    | some c, some m =>
      if 7 < rank.toNat then refuse .badValue s
      else
        let old := s.attention.setting c
        executed [code, boolByte old.masked, byte old.rank, mask, rank]
          (s.setAttention { s.attention with causes := s.attention.causes.set c.index ⟨m, rank.toNat⟩ })
    | _, _ => refuse .badValue s
  | _ => refuse .badLength s

/-- Outcome code and id of a forced event, id 0 where none is returned (R114, R179). -/
def Taken.bytes : Taken → List Byte
  | .created id => 0 :: be16 id
  | .added id => 1 :: be16 id
  | .masked => 2 :: be16 0
  | .lost => 3 :: be16 0

/-- The event is taken at the list in the command event, so that the response reports its outcome (R114). -/
def forceEvent (object rank : Byte) (s : State) : Reply × State :=
  let (taken, s) := s.takeAttention ⟨.testForced, object, s.time, none, some rank.toNat⟩
  executed taken.bytes s

/-- FORCE_ATTENTION (R114). -/
def runForceAttention (r : Request) (s : State) : Reply × State :=
  owned r s <| match r.operands with
  | [object, rank] => if 7 < rank.toNat then refuse .badValue s else forceEvent object rank s
  | _ => refuse .badLength s

end Sys2Proof.Machine
end

