-- ==== Sys2Proof/Machine/RingCommands.lean ====
section
/-! DEFINITION. The management commands on capture rings (section 8.5). -/
namespace Sys2Proof.Machine

/-! ## DEFINE_RING, START_RING, STOP_RING, TRIGGER_RING, DISCARD_RING -/

/-- Another defined ring owns one of the slots (R140). -/
def State.ringOverlaps (s : State) (k : Fin 8) (d : RingDef) : Bool :=
  ringIndices.any (fun j => decide (j ≠ k) && (s.ring j).any (fun r => r.defn.overlaps d))

/-- A ring just defined: IDLE and empty (R133, R140). -/
def Ring.defined (d : RingDef) : Ring := ⟨d, .idle, 0, 0, none⟩

/-- DEFINE_RING (R140). -/
def runDefineRing (r : Request) (s : State) : Reply × State :=
  owned r s <| sized 16 r s <| onRing (byteAt r.operands 0) s fun k =>
    if (s.ring k).any Ring.recording then refuse .ringState s
    else match RingDef.ofBytes (r.operands.drop 1) with
      | none => refuse .badValue s
      | some d =>
        if s.ringOverlaps k d then refuse .ringOverlap s
        else executed (byte k.val :: be16 d.base ++ be16 d.size) (s.setRing k (some (.defined d)))

/-- A ring just started: RUNNING and empty (R141). -/
def Ring.started (x : Ring) : Ring := { x with state := .running, next := 0, held := 0, remaining := none }

/-- START_RING (R141). -/
def runStartRing (r : Request) (s : State) : Reply × State :=
  owned r s <| match r.operands with
  | [number] => onRing number s fun k =>
    match s.ring k with
    | none => refuse .ringState s
    | some x =>
      if x.recording then refuse .ringState s
      else executed [byte k.val, RingState.running.code] (s.setRing k (some x.started))
  | _ => refuse .badLength s

/-- A ring stopped: FROZEN with its records, and no attention event (R142). -/
def Ring.stopped (x : Ring) : Ring := { x with state := .frozen, remaining := none }

/-- STOP_RING (R142). The records held may exceed a byte and are given in two (log 9). -/
def runStopRing (r : Request) (s : State) : Reply × State :=
  owned r s <| match r.operands with
  | [number] => onRing number s fun k =>
    match s.ring k with
    | none => refuse .ringState s
    | some x =>
      if x.recording then
        executed ([byte k.val, x.state.code] ++ be32 x.next ++ be16 x.held) (s.setRing k (some x.stopped))
      else refuse .ringState s
  | _ => refuse .badLength s

/-- TRIGGER_RING (R143): a RUNNING ring is triggered as by a matching announcement; any other is unchanged. -/
def runTriggerRing (r : Request) (s : State) : Reply × State :=
  owned r s <| match r.operands with
  | [number] => onRing number s fun k =>
    match s.ring k with
    | none => refuse .ringState s
    | some x =>
      executed [byte k.val, x.state.code, x.trigger.state.code]
        (if x.state = .running then s.putRing k x.trigger else s)
  | _ => refuse .badLength s

/-- DISCARD_RING (R144). -/
def runDiscardRing (r : Request) (s : State) : Reply × State :=
  owned r s <| match r.operands with
  | [number] => onRing number s fun k =>
    executed [byte k.val, ringStateByte (s.ring k)] (s.setRing k none)
  | _ => refuse .badLength s

/-! ## READ_RING (R145, R146, R178) -/

/-- The oldest record number (R133). -/
def Ring.oldest (x : Ring) : BitVec 32 := x.next - BitVec.ofNat 32 x.held

/-- Where reading begins: the OVERRUN flag and the first record number, or no record (R145). -/
def Ring.readFrom (x : Ring) (start : BitVec 32) : Bool × Option (BitVec 32) :=
  if (start - x.oldest).toNat < x.held then (false, some start)
  else if (start - x.next).toNat < 2 ^ 31 then (false, none)
  else (true, some x.oldest)

/-- How many whole records fit in the 47 bytes left (R146). -/
def Ring.perResponse (x : Ring) : Nat := 47 / (14 + x.defn.captureLength)

/-- How many records a read from `first` returns (R146). -/
def Ring.readCount (x : Ring) (first : BitVec 32) : Nat :=
  min x.perResponse (x.held - (first - x.oldest).toNat)

/-- A record that a slot holds, in results: 14 fixed bytes and exactly capture-length payload bytes (R178). -/
def CaptureRecord.bytes (captureLength : Nat) (c : CaptureRecord) : List Byte :=
  be32 c.time ++ [byte c.ingress.code, byte c.verdict.code, orFF (c.flow.map (fun i => byte i.val))]
  ++ (c.header.take 6) ++ [byte c.storedLength]
  ++ (c.payload ++ List.replicate captureLength 0).take captureLength

/-- What a slot that holds no record would read as. A ring never counts such a slot as held (log 14). -/
def CaptureRecord.blank : CaptureRecord := ⟨0, .port .u, none, .arrival .forwarded, [0, 0, 0, 0, 0, 0], 0, []⟩

/-- The bytes of record number `n` of a ring. -/
def State.recordBytes (s : State) (x : Ring) (n : BitVec 32) : List Byte :=
  ((s.capture.memory.read (x.slot n)).getD .blank).bytes x.defn.captureLength

/-- The results of READ_RING (R146, R178). -/
def State.readRing (s : State) (k : Fin 8) (x : Ring) (start : BitVec 32) : List Byte :=
  let (overrun, first) := x.readFrom start
  let count := (first.map x.readCount).getD 0
  let base := first.getD 0
  [byte k.val, x.state.code ||| (if overrun then 0x80 else 0)] ++ be32 x.oldest ++ be32 x.next ++ [byte count]
  ++ (List.range count).flatMap (fun j => s.recordBytes x (base + BitVec.ofNat 32 j))

/-- READ_RING (R145). It keeps no state and needs no claim. -/
def runReadRing (r : Request) (s : State) : Reply × State :=
  match r.operands with
  | [number, a, b, c, d] => onRing number s fun k =>
    match s.ring k with
    | none => refuse .ringState s
    | some x => answerOk (s.readRing k x (word32 a b c d)) s
  | _ => refuse .badLength s

end Sys2Proof.Machine
end

