-- ==== Sys2Proof/Machine/SenseUnit.lean ====
section
/-! DEFINITION. The sense unit (chapter 9): samples, debounce qualification, SENSE_CONFIG and READ_SENSE. -/
namespace Sys2Proof.Machine

/-! ## Samples (R148, R149, R150) -/

/-- The cause a change of the debounced state raises, as the edge setting selects (R150). -/
def Edges.select (e : Edges) (becomes : SenseState) : Option Cause :=
  match becomes, e with
  | .asserted, .assert => some .senseAsserted
  | .asserted, .both => some .senseAsserted
  | .asserted, .noEdge => none
  | .asserted, .deassert => none
  | .deasserted, .deassert => some .senseDeasserted
  | .deasserted, .both => some .senseDeasserted
  | .deasserted, .noEdge => none
  | .deasserted, .assert => none

/-- The qualification step of a sample taken at `t`, after the level has been taken over (R149). -/
def Sense.qualify (t : Time) (x : Sense) : Sense :=
  match x.qualification with
  | none =>
    if x.raw = x.debounced then x
    else if x.debounce = 0 then { x with debounced := x.raw }
    else { x with qualification := some ⟨x.raw, t + ticks x.debounce.toNat⟩ }
  | some q =>
    if x.raw = x.debounced then { x with qualification := none }
    else if before t q.completes then x
    else { x with debounced := x.raw, qualification := none }

/-- The input after a sample that finds `level` at its next sampling time (R148, R149). -/
def Sense.sampled (level : Level) (x : Sense) : Sense :=
  let y := Sense.qualify x.nextSample { x with terminal := level, level := level }
  { y with nextSample := x.nextSample + 10, settled := true }

/-- The cause a sample raises: none where the debounced state stays, and none at the first qualification after a
cold reset (R150, R154). -/
def Sense.sampleCause (x y : Sense) : Option Cause :=
  if x.settled && decide (y.debounced ≠ x.debounced) then y.edges.select y.debounced else none

/-- A sample of an input, at its sampling time. -/
def State.sample (i : Fin 4) (level : Level) (s : State) : State :=
  let x := s.input i
  let y := x.sampled level
  let s := (s.elapseTo x.nextSample).setInput i y
  match x.sampleCause y with
  | some c => s.raiseEvent c (byte i.val)
  | none => s

/-! ## SENSE_CONFIG (R151, R152) -/

/-- The TIME of the first sample whose TIME is not before `t` (R152). -/
def Sense.firstSampleFrom (t : Time) (x : Sense) : Time :=
  if before x.nextSample t then
    x.nextSample + BitVec.ofNat 32 (((t - x.nextSample).toNat + 9) / 10 * 10)
  else x.nextSample

/-- The input after a SENSE_CONFIG executed at `t` (R152). -/
def Sense.configured (t : Time) (polarity : Polarity) (debounce : Byte) (edges : Edges) (x : Sense) : Sense :=
  let y := { x with polarity, debounce, edges }
  { y with qualification :=
      if y.raw = y.debounced then none
      else some ⟨y.raw, y.firstSampleFrom (t + ticks debounce.toNat)⟩ }

/-- Polarity, debounce time and edges, as results give them. -/
def Sense.configBytes (x : Sense) : List Byte := [x.polarity.code, x.debounce, x.edges.code]

/-- Synchronised level, raw state, debounced state, qualification running, target (R179). -/
def Sense.stateBytes (x : Sense) : List Byte :=
  [levelCode x.level, x.raw.code, x.debounced.code, boolByte x.qualification.isSome,
   ((x.qualification.map (fun q => q.target.code)).getD 0)]

/-- SENSE_CONFIG (R151; layout of the results: log 9). -/
def runSenseConfig (r : Request) (s : State) : Reply × State :=
  owned r s <| match r.operands with
  | [input, polarity, debounce, edges] =>
    if h : input.toNat < 4 then
      match Polarity.ofByte polarity, Edges.ofByte edges with
      | some p, some e =>
        let x := s.input ⟨input.toNat, h⟩
        let y := x.configured s.time p debounce e
        executed (input :: (x.configBytes ++ y.configBytes ++ y.stateBytes)) (s.setInput ⟨input.toNat, h⟩ y)
      | _, _ => refuse .badValue s
    else refuse .badIndex s
  | _ => refuse .badLength s

/-- READ_SENSE (R153, R179): the four inputs, eight bytes each. -/
def runReadSense (r : Request) (s : State) : Reply × State :=
  sized 0 r s <|
    answerOk (inputIndices.flatMap (fun i => (s.input i).stateBytes ++ (s.input i).configBytes)) s

end Sys2Proof.Machine
end

