-- ==== Sys2Proof/Machine/Management.lean ====
section
/-! DEFINITION. The agent's own commands (R162, R165 to R168), the take of a request (R156), its completion, and
the management commands as they reach the agent (R18). -/
namespace Sys2Proof.Machine

/-! ## DISCOVER, CLAIM, RELEASE (R162, R167) -/

/-- DISCOVER (R167, R179). -/
def runDiscover (r : Request) (s : State) : Reply × State :=
  sized 0 r s <|
    answerOk
      ([0x52] ++ be16 0x0316 ++ [byte revision, s.station.setWidth 8, s.holderByte, 64, 16, 8] ++ be16 1024 ++ [32]
        ++ be32 s.time) s

/-- The claim's holder set (R161). -/
def State.setHolder (a : Option Address) (s : State) : State := s.setAgent { s.agent with holder := a }

/-- CLAIM (R162). -/
def runClaim (r : Request) (s : State) : Reply × State :=
  sized 0 r s <|
    if s.agent.holder = none ∨ s.holds r then
      executed (r.requester.setWidth 8 :: be16 s.params.leaseTime) (s.setHolder (some r.requester))
    else (.answer .notOwner [s.holderByte], s)

/-- RELEASE (R162): from the holder it sets no holder and stops the lease. -/
def runRelease (r : Request) (s : State) : Reply × State :=
  sized 0 r s <|
    if s.holds r then answerOk [0xFF] (s.setAgent { s.agent with holder := none, lease := none })
    else (.answer .notOwner [s.holderByte], s)

/-! ## Parameters (R165, R166) -/

/-- READ_PARAM (R165). -/
def runReadParam (r : Request) (s : State) : Reply × State :=
  match r.operands with
  | [number] =>
    match Param.ofByte number with
    | none => refuse .badIndex s
    | some p => answerOk (number :: be32 (s.paramValue p)) s
  | _ => refuse .badLength s

/-- What a parameter's write makes the reporter do (R121, R122, R166). -/
def State.paramWritten (p : Param) (s : State) : State :=
  match p with
  | .reportAddr => s.reportAddrWritten
  | .reportInterval => s.leaveStall
  | .reportRetries => s.leaveStall
  | .unmatchedPolicy => s
  | .mgmtPorts => s
  | .leaseTime => s
  | .alertRank => s
  | .genHop => s
  | .stationAddr => s
  | .revision => s
  | .time => s

/-- WRITE_PARAM of a writable parameter (R166): BAD_VALUE, or the write and its effect. -/
def writeValue (p : Param) (v : BitVec 32) (s : State) : Reply × State :=
  match s.params.write s.station p v.toNat with
  | none => refuse .badValue s
  | some x =>
    let t := s.setAgent { s.agent with params := x }
    executed (p.number :: (be32 (s.paramValue p) ++ be32 (t.paramValue p))) (t.paramWritten p)

/-- WRITE_PARAM (R166). -/
def runWriteParam (r : Request) (s : State) : Reply × State :=
  owned r s <| match r.operands with
  | [number, a, b, c, d] =>
    match Param.ofByte number with
    | none => refuse .badIndex s
    | some p => if p.readOnly then refuse .notAllowed s else writeValue p (word32 a b c d) s
  | _ => refuse .badLength s

/-- RESTART at its take (R168): BUSY during a sweep; else the lease starts again and nothing else changes yet. -/
def runRestart (r : Request) (s : State) : Reply × State :=
  owned r s <| sized 0 r s <|
    if s.sweep.isSome then refuse .busy s else (.restarting, s.restartLease)

/-! ## The take (R156, R157) -/

/-- The command checked and executed at the take: UNKNOWN_COMMAND first (R157). -/
def run (r : Request) (s : State) : Reply × State :=
  match Command.ofCode r.code with
  | none => refuse .unknownCommand s
  | some .discover => runDiscover r s
  | some .claim => runClaim r s
  | some .release => runRelease r s
  | some .readParam => runReadParam r s
  | some .writeParam => runWriteParam r s
  | some .restart => runRestart r s
  | some .portControl => runPortControl r s
  | some .readCounters => runReadCounters r s
  | some .setRoute => runSetRoute r s
  | some .readRoute => runReadRoute r s
  | some .loadFlow => runLoadFlow r s
  | some .retimeFlow => runRetimeFlow r s
  | some .armFlow => runArmFlow r s
  | some .disarmFlow => runDisarmFlow r s
  | some .dropFlow => runDropFlow r s
  | some .readFlow => runReadFlow r s
  | some .clearTable => runClearTable r s
  | some .readAttention => runReadAttention r s
  | some .ackAttention => runAckAttention r s
  | some .clearAttention => runClearAttention r s
  | some .setCause => runSetCause r s
  | some .forceAttention => runForceAttention r s
  | some .defineRing => runDefineRing r s
  | some .startRing => runStartRing r s
  | some .stopRing => runStopRing r s
  | some .triggerRing => runTriggerRing r s
  | some .readRing => runReadRing r s
  | some .discardRing => runDiscardRing r s
  | some .senseConfig => runSenseConfig r s
  | some .readSense => runReadSense r s

/-- The take of a request: checked and executed, its results fixed, the agent SERVING for 20 µs (R156). -/
def State.take (r : Request) (s : State) : State :=
  let (reply, s) := run r s
  s.setAgent { s.agent with service := .serving r (s.time + 20) reply }

/-- The agent takes the head of its queue when it is IDLE and the queue is not empty (R156). -/
def State.takeNext (s : State) : State :=
  match s.agent.service, s.agent.queue with
  | .idle, r :: rest => (s.setAgent { s.agent with queue := rest }).take r
  | _, _ => s

/-- The agent's take in an event that makes it possible: at once where nothing else is raised, else an event of its own
among what is raised, before or after each of the others (R105, R136, R139; log 3, log 13). -/
def State.takeFreely (s : State) : State :=
  match s.agent.service, s.agent.queue with
  | .idle, _ :: _ => if s.raised.isEmpty then s.takeNext else s.raise .take
  | _, _ => s

/-! ## Completion of a request (R156, R158, R168) -/

/-- The agent with no request in service. -/
def State.unserve (s : State) : State := s.setAgent { s.agent with service := .idle }

/-- The completion event: the response is built and the agent takes the next request, but for CLEAR_TABLE, whose
request becomes sweep-pending, and RESTART, which enters RESTART_WAIT and offers its response with the restart mark
(R156, R158, R168). -/
def State.completeRequest (r : Request) (ends : Time) (reply : Reply) (s : State) : State :=
  let s := s.elapseTo ends
  match reply with
  | .answer st results => (s.unserve.respond r st results false).takeFreely
  | .sweeping =>
    (s.setAgent { s.agent with
      service := .idle
      sweepPending := s.sweep.map (fun _ => r) }).takeFreely
  | .restarting => (s.setAgent { s.agent with service := .restartWait }).respond r .ok [] true

/-- The completion of the request in service, if one is in service. -/
def State.completion (s : State) : State :=
  match s.agent.service with
  | .serving r ends reply => s.completeRequest r ends reply
  | .idle => s
  | .restartWait => s

/-! ## A request reaching the agent (R18, R121) -/

/-- The stall exit of a request from REPORT_ADDR (R121). -/
def State.stallExit (requester : Address) (s : State) : State :=
  if s.params.reportAddr = some requester then s.leaveStall else s

/-- A request from REPORT_ADDR reaches the agent: a STALLED reporter is told in this event (R121). -/
def State.tellReporter (requester : Address) (s : State) : State :=
  if s.reporter.state = .stalled ∧ s.params.reportAddr = some requester then s.raise (.stallExit requester) else s

/-- What follows the admission of a request in the same event: the reporter is told, and an IDLE agent takes. Which comes
first is free, but for the ACK_ATTENTION that R121 puts before the stall exit (`State.candidates`; log 13). -/
def State.afterRequest (requester : Address) (s : State) : State := (s.tellReporter requester).takeFreely

/-- The request a management command carries, under a command code. -/
def requestOf (code : Byte) (q : Req) : Request := ⟨q.requester, q.tag, q.ingress, code, q.operands⟩

/-- A management request that reaches the agent of an addressed module (R18; log 5). In unaddressed operation none
does (R9). -/
def State.request (code : Byte) (q : Req) (s : State) : State :=
  if s.addressed then ((s.admission (requestOf code q) true).2).afterRequest q.requester else s

end Sys2Proof.Machine
end

