-- ==== Sys2Proof/Machine/Settle.lean ====
section
/-! DEFINITION. The warm restart (R170), and how the units take what the blocks have raised inside one command,
until nothing is raised. -/
namespace Sys2Proof.Machine

/-! ## The warm restart (R170) -/

/-- A port: counters 0, queues emptied uncounted; line, admin, qualification, reception and transmission kept
(R8, R13, R27, R28, R96). -/
def PortState.warm (p : PortState) : PortState :=
  { p with
    transmitted := 0, aborted := 0, fragments := 0, full := 0, blocked := 0, offline := 0
    verdicts := .replicate 15 0, urgent := [], normal := [] }

/-- A valid entry: running entries ARMED, hold content absent, counters 0; definition and slot kept (R55). -/
def Flow.warm (f : Flow) : Flow :=
  { f with
    state := if f.state = .disabled then .disabled else .armed
    schedule := none, lastSeq := none, misses := 0, good := 0, subs := 0
    holdContent := none, counters := .zero }

/-- The agent: requests discarded, no holder, lease stopped, cache emptied, IDLE; parameters kept (R170). -/
def Agent.warm (a : Agent) : Agent :=
  { Agent.reset with params := a.params }

/-- The warm restart at every block (R170). TIME, the route map and the sense unit are kept. -/
def State.warmRestart (s : State) : State :=
  { s with
    ports := ⟨s.ports.u.warm, s.ports.d.warm, s.ports.b.warm⟩
    flows := vmap (Option.map Flow.warm) s.flows
    sweep := none
    attention := { s.attention with records := [], lost := 0 }
    reporter := s.reporter.toIdle
    capture := { s.capture with rings := vmap (Option.map Ring.warm) s.capture.rings }
    agent := s.agent.warm }

/-! ## Taking what is raised -/

/-- The agent's take is raised, and the request it will take has this command code. -/
def State.takesNext (c : Command) (s : State) : Bool :=
  s.raised.contains .take && (s.agent.queue.head?).any (fun r => decide (r.code = c.code))

/-- Something raised can still have an effect. A notice that no ring accepts now is accepted by none later in the
command, unless the agent is about to start a ring; the same holds of an announcement. A stall once left does not
come back in the command. -/
def State.live (s : State) : Raised → Bool
  | .attention _ => true
  | .announce c o => s.takesNext .startRing || ringIndices.any (fun k =>
      (s.ring k).any (fun r => decide (r.state = .running) && r.matchesEvent c o))
  | .notice n => s.takesNext .startRing || ringIndices.any (fun k => (s.ring k).any (fun r => r.accepts n))
  | .restart => true
  | .offer _ _ => true
  | .take => true
  | .stallExit _ => decide (s.reporter.state = .stalled)

/-- Drop what can have no effect: it leaves no trace (R134, R137). -/
def State.prune (s : State) : State := { s with raised := s.raised.filter s.live }

/-- A FLOW attention event. The events of one supervision step are taken in their order (R66, R98). -/
def Raised.isFlow : Raised → Bool
  | .attention e => e.cause.isFlow
  | _ => false

/-- An offer to an egress queue. -/
def Raised.isOffer : Raised → Bool
  | .offer _ _ => true
  | _ => false

/-- The end of a stall. -/
def Raised.isStallExit : Raised → Bool
  | .stallExit _ => true
  | _ => false

/-- What never touches an egress queue unless a report begins: its order against an offer cannot be told. -/
def Raised.apartFromQueues : Raised → Bool
  | .attention _ => true
  | .announce _ _ => true
  | .notice _ => true
  | .offer _ _ => true
  | .restart => false
  | .take => false
  | .stallExit _ => false

/-- What may be taken first: anything but a FLOW event that another one precedes. -/
def eligible : List Raised → List Raised
  | [] => []
  | x :: rest => if x.isFlow then x :: rest.filter (fun y => !y.isFlow) else x :: eligible rest

/-- The reporter could begin a report (R117). -/
def State.mayReport (s : State) : Bool :=
  decide (s.reporter.state = .idle) && s.addressed && s.params.reportAddr.isSome

/-- No order of the offers among what is raised leads to another state than taking them first, port by port: no report
can begin in this command, and nothing else raised reaches a queue. -/
def State.offersApart (s : State) : Bool := !s.mayReport && s.raised.all Raised.apartFromQueues

/-- What may be taken first: FLOW events in their order (R66); an ACK_ATTENTION that the agent is to take before the end
of the stall (R121); everything else in any order (R86, R105, R136; log 3). Where the order of the offers cannot be
told, the first of them, so that no choice is made. -/
def State.candidates (s : State) : List Raised :=
  let xs := eligible s.raised
  let xs := if s.takesNext .ackAttention then xs.filter (fun x => !x.isStallExit) else xs
  match xs.find? Raised.isOffer with
  | some x => if s.offersApart then [x] else xs
  | none => xs

/-- The unit concerned takes one thing raised. -/
def State.takeRaised (x : Raised) (s : State) : State :=
  match x with
  | .attention e => (s.takeAttention e).2
  | .announce c o => s.takeAnnounce c o
  | .notice n => s.takeNotice n
  | .restart => s.warmRestart
  | .offer p e => s.enqueue p e
  | .take => s.takeNext
  | .stallExit a => s.stallExit a

/-- Take one of the things that may be taken first: which one is free (R86, R105, R136, R147; log 3). -/
def State.takeOne (s : State) : State :=
  let xs := s.candidates
  let (i, s) := s.choose xs.length
  match xs[i]? with
  | none => s
  | some x => ({ s with raised := s.raised.erase x }).takeRaised x

/-- How much one raised thing can still bring about, itself included. -/
def Raised.weight : Raised → Nat
  | .attention _ => 2
  | .announce _ _ => 1
  | .notice _ => 1
  | .restart => 4
  | .offer _ e => if e.restartMark then 7 else 3
  | .take => 4
  | .stallExit _ => 4

/-- A bound on the things still to be taken: each ring can freeze once more, and an IDLE reporter can begin one
report. -/
def State.work (s : State) : Nat :=
  (s.raised.map Raised.weight).sum
  + 2 * (ringIndices.filter (fun k => (s.ring k).any Ring.recording)).length
  + (if s.reporter.state = .idle then 3 else 0)

/-- Take what is raised, one thing after another, at most `n` of them. -/
def State.drain : Nat → State → State
  | 0, s => s
  | n + 1, s =>
    let s := s.prune
    match s.raised with
    | [] => s
    | _ :: _ => s.takeOne.drain n

/-- The units take everything raised. -/
def State.takeAll (s : State) : State := s.drain (s.work + 1)

/-- The end of a command: everything raised is taken, and ALERT follows (R107). That all of it is taken before the next
row, also where both rows stand for one moment, is the model's choice: R86, R105, R136 and R147 would let what two such
rows raise be taken in a crossed order (log 21). -/
def State.settle (s : State) : State := s.takeAll.refreshAlert

end Sys2Proof.Machine
end

