-- ==== Sys2Proof/Machine/Arrivals.lean ====
section
/-! DEFINITION. The arrival handler (chapter 2): the stages of an arrival, its verdict, its copies and its notice. -/
namespace Sys2Proof.Machine

/-! ## Local delivery (R17 to R19) -/

/-- The frame is local: the module is addressed and DST is its address (R3, R17). -/
def State.isLocal (s : State) (x : Frame) : Bool := s.addressed && decide (x.dst = s.station)

/-- The frame carries a command on a management port: MGT, a payload, ingress in MGMT_PORTS (R17). -/
def State.carriesRequest (s : State) (p : Port) (x : Frame) : Bool :=
  decide (x.kind = .mgt) && portIn s.params.mgmtPorts p && !x.payload.isEmpty

/-- A broadcast DISCOVER offered to the agent (R19). -/
def State.offersDiscover (s : State) (p : Port) (x : Frame) : Bool :=
  s.addressed && decide (x.dst = 127) && s.carriesRequest p x
  && decide (x.payload.head? = some Command.discover.code)

/-- The request a frame carries (R18, R174). -/
def Frame.request (p : Port) (x : Frame) : Request :=
  ⟨x.src, x.seq, p, byteAt x.payload 0, x.payload.drop 1⟩

/-! ## Routing (R24) -/

/-- The port a target yields for an arrival (R24). -/
def Target.portFor (ingress : Port) : Target → Option Port
  | .default =>
    match ingress with
    | .u => some .d
    | .d => some .u
    | .b => some .u
  | .u => some .u
  | .d => some .d
  | .b => some .b
  | .drop => none

/-- The two ports other than the ingress, as a set. -/
def otherPorts : Port → BitVec 3
  | .u => 0b110
  | .d => 0b101
  | .b => 0b011

/-- A set of one port. -/
def onlyPort : Port → BitVec 3
  | .u => 0b001
  | .d => 0b010
  | .b => 0b100

/-- The route stage (R24): flooded, forwarded to one port, or refused. -/
def State.routeStage (p : Port) (x : Frame) (s : State) : Verdict × State :=
  if x.dst = 127 then (.forwarded, s.forwardTo (otherPorts p) x)
  else match (s.route x.dst).portFor p with
    | none => (.dropNoroute, s)
    | some q => if q = p then (.dropNoroute, s) else (.forwarded, s.forwardTo (onlyPort q) x)

/-! ## Flow lookup (R21 to R23) -/

/-- The entry carries the key of a frame (R21). -/
def Flow.carriesKey (x : Frame) (f : Flow) : Bool :=
  decide (f.defn.src = x.src ∧ f.defn.dst = x.dst ∧ f.defn.ch = x.ch)

/-- The valid entry that carries the key of a frame and is not DISABLED. At most one carries a key (R34). -/
def State.lookup (x : Frame) (s : State) : Option (Fin 64 × Flow) :=
  flowIndices.findSome? (fun i =>
    match s.flow i with
    | some f => if f.carriesKey x && decide (f.state ≠ .disabled) then some (i, f) else none
    | none => none)

/-- What an arrival comes to: its verdict, and the flow entry under which it was given (R29). -/
structure Handled where
  verdict : Verdict
  flow : Option (Fin 64)
  state : State

/-- The route stage as the end of an arrival. -/
def State.routed (p : Port) (x : Frame) (s : State) : Handled :=
  let (v, s) := s.routeStage p x
  ⟨v, none, s⟩

/-- A SUB frame forwarded under entry `i` (R22, R77). -/
def State.passSub (i : Fin 64) (f : Flow) (x : Frame) (s : State) : Handled :=
  let g := { f with counters := { f.counters with subSeen := f.counters.subSeen + 1 } }
  ⟨.forwarded, some i, (s.setFlow i (some g)).forwardTo f.defn.egress x⟩

/-- The flow lookup stage (R21 to R23), then the route stage. -/
def State.flowStage (p : Port) (x : Frame) (s : State) : Handled :=
  match x.kind with
  | .cyc =>
    match s.lookup x with
    | some (i, f) =>
      let (v, s) := s.supervise i f p x
      ⟨v, some i, s⟩
    | none =>
      match s.params.unmatchedPolicy with
      | .forward => s.routed p x
      | .drop => ⟨.dropUnmatched, none, s⟩
  | .sub =>
    match s.lookup x with
    | some (i, f) => if f.defn.ingress = p then s.passSub i f x else s.routed p x
    | none => s.routed p x
  | .acy => s.routed p x
  | .mgt => s.routed p x
  | .mrs => s.routed p x
  | .atn => s.routed p x

/-! ## Screening (R20) -/

/-- The loop, blocked-ingress and hop stages, then flow lookup and route (R20). -/
def State.screen (p : Port) (x : Frame) (s : State) : Handled :=
  if s.addressed ∧ x.src = s.station then ⟨.dropLoop, none, s.raiseEvent .portLoop (portByte p)⟩
  else if (s.port p).admin = .blocked then ⟨.dropBlocked, none, s⟩
  else if x.hop = 0 then ⟨.dropHop, none, s⟩
  else s.flowStage p x

/-! ## The end of an arrival (R16, R27, R29) -/

/-- The first six bytes received, 0 for those that were not (R29). -/
def headerCopy (bytes : List Byte) : List Byte := (bytes ++ List.replicate 6 0).take 6

/-- The notice of an arrival (R29). -/
def arrivalNotice (t : Time) (p : Port) (bytes : List Byte) (x : Option Frame) (v : Verdict)
    (flow : Option (Fin 64)) : Notice :=
  match x with
  | some x => ⟨t, .port p, flow, .arrival v, headerCopy bytes, x.payload.length, x.payload⟩
  | none =>
    let beyond := (bytes.drop 6).take 60
    ⟨t, .port p, flow, .arrival v, headerCopy bytes, beyond.length, beyond⟩

/-- The verdict is counted for the ingress port and one notice is offered (R16, R27, R29). -/
def State.conclude (p : Port) (bytes : List Byte) (x : Option Frame) (h : Handled) : State :=
  let s := h.state.setPort p ((h.state.port p).countVerdict h.verdict)
  s.raise (.notice (arrivalNotice s.time p bytes x h.verdict h.flow))

/-- A local frame (R17, R18). -/
def State.localStage (p : Port) (bytes : List Byte) (x : Frame) (s : State) : State :=
  if s.carriesRequest p x then
    let (v, s) := s.admission (x.request p) true
    (State.conclude p bytes (some x) ⟨v, none, s⟩).afterRequest x.src
  else State.conclude p bytes (some x) ⟨.dropMgmt, none, s⟩

/-- A broadcast DISCOVER: offered to the agent, and screened and routed like every broadcast (R19). -/
def State.discoverStage (p : Port) (bytes : List Byte) (x : Frame) (s : State) : State :=
  let (_, s) := s.admission (x.request p) false
  (State.conclude p bytes (some x) (s.screen p x)).afterRequest x.src

/-- The stages of an arrival, in their order (R16). -/
def State.handle (p : Port) (bytes : List Byte) (s : State) : State :=
  match Frame.parse bytes with
  | none => State.conclude p bytes none ⟨.dropCheck, none, s⟩
  | some x =>
    if s.isLocal x then s.localStage p bytes x
    else if s.offersDiscover p x then s.discoverStage p bytes x
    else State.conclude p bytes (some x) (s.screen p x)

/-- The reception of a port is over. -/
def State.endReception (p : Port) (s : State) : State := s.setPort p { s.port p with receiving := false }

/-- An arrival on a port: an OFFLINE port takes none (R10, R11). -/
def State.arrive (p : Port) (bytes : List Byte) (s : State) : State :=
  match (s.port p).line with
  | .offline => s
  | .online => (s.endReception p).handle p bytes

/-- ARRIVAL (R16). -/
def execArrival (port : Port) (bytes : List Byte) (s : State) : Host.Outcome State Fault Refusal :=
  .next (s.unlessReset fun s => (s.arrive port bytes).settle)

end Sys2Proof.Machine
end

