-- ==== Sys2Proof/Machine/LineEvents.lean ====
section
/-! DEFINITION. Reset (R8), the line state of the ports (R10, R91), transmissions (R88), the timers of the agent and the
reporter (R120, R163), and what is due by itself when no command waits (log 1). -/
namespace Sys2Proof.Machine

/-! ## Reset (R8) -/

/-- A port while RESET is asserted: the transmission in progress ends at once and is counted nowhere; nothing is
received (R8). -/
def PortState.held (p : PortState) : PortState := { p with transmitter := .idle, receiving := false }

/-- RESET is asserted: the module is held in reset and ALERT is deasserted (R8, R107). -/
def State.holdReset (s : State) : State :=
  { s with
    resetAsserted := true
    alert := false
    ports := ⟨s.ports.u.held, s.ports.d.held, s.ports.b.held⟩ }

/-- RESET_ASSERTED (R8). -/
def execResetAsserted (s : State) : Host.Outcome State Fault Refusal := .next s.holdReset

/-- The cold reset completes: the switch is read, TIME starts from 0 and every block takes its cold-reset values (R8).
What is outside the module stays: the commands that wait and the levels at the SENSE terminals. -/
def State.coldReset (switch : Address) (s : State) : State :=
  { State.reset with
    pending := s.pending
    station := switch
    sense := vmap (fun x => { Sense.reset with terminal := x.terminal }) s.sense
    choices := s.choices }

/-- COLD_RESET (R8). -/
def execColdReset (switch : Address) (s : State) : Host.Outcome State Fault Refusal := .next (s.coldReset switch)

/-! ## Line state (R10, R91) -/

/-- A valid signal on an OFFLINE port starts the qualification interval of 100 µs, if none runs (R10). -/
def PortState.signalValid (t : Time) (p : PortState) : PortState :=
  match p.line, p.qualification with
  | .offline, none => { p with qualification := some (t + 100) }
  | _, _ => p

/-- SIGNAL_VALID (R10). -/
def execSignalValid (port : Port) (s : State) : Host.Outcome State Fault Refusal :=
  .next (s.unlessReset fun s => (s.setPort port ((s.port port).signalValid s.time)).settle)

/-- The qualification interval is over: the port goes ONLINE and PORT/ONLINE is raised (R10). -/
def State.qualified (p : Port) (s : State) : State :=
  match (s.port p).line, (s.port p).qualification with
  | .offline, some t =>
    let s := s.elapseTo t
    (s.setPort p { s.port p with line := .online, qualification := none }).raiseEvent .portOnline (portByte p)
  | _, _ => s

/-- QUALIFICATION_EXPIRY (R10). -/
def execQualificationExpiry (port : Port) (s : State) : Host.Outcome State Fault Refusal :=
  .next (s.unlessReset fun s => (s.qualified port).settle)

/-- A reception is in progress on an ONLINE port (R10). -/
def PortState.receptionStart (p : PortState) : PortState :=
  match p.line with
  | .online => { p with receiving := true }
  | .offline => p

/-- RECEPTION_START (R10). -/
def execReceptionStart (port : Port) (s : State) : Host.Outcome State Fault Refusal :=
  .next (s.unlessReset fun s => (s.setPort port (s.port port).receptionStart).settle)

/-- The transmitter is SENDING. -/
def Transmitter.busy : Transmitter → Bool
  | .idle => false
  | .sending _ _ => true

/-- The frame in transmission carries the restart mark. -/
def Transmitter.marked : Transmitter → Bool
  | .idle => false
  | .sending e _ => e.restartMark

/-- An ONLINE port goes OFFLINE: a reception is cut short, a transmission aborted, the queues flushed, each counted
(R10, R13, R91). -/
def PortState.goOffline (p : PortState) : PortState :=
  { p with
    line := .offline
    receiving := false
    fragments := if p.receiving then p.fragments + 1 else p.fragments
    aborted := if p.transmitter.busy then p.aborted + 1 else p.aborted
    transmitter := .idle
    offline := p.offline + BitVec.ofNat 32 (p.urgent.length + p.normal.length)
    urgent := []
    normal := [] }

/-- A frame with the restart mark stands in a queue or in transmission at the port (R90). -/
def PortState.holdsMark (p : PortState) : Bool :=
  p.transmitter.marked || p.urgent.any (·.restartMark) || p.normal.any (·.restartMark)

/-- Loss of signal (R10, R91): a qualification is abandoned; an ONLINE port goes OFFLINE and PORT/OFFLINE is raised. The
loss of a frame with the restart mark orders the warm restart (R90, R169). -/
def State.loseSignal (p : Port) (s : State) : State :=
  let x := s.port p
  match x.line with
  | .offline => s.setPort p { x with qualification := none }
  | .online =>
    let s := (s.setPort p x.goOffline).raiseEvent .portOffline (portByte p)
    if x.holdsMark then s.raise .restart else s

/-- SIGNAL_LOST (R10). -/
def execSignalLost (port : Port) (s : State) : Host.Outcome State Fault Refusal :=
  .next (s.unlessReset fun s => (s.loseSignal port).settle)

/-! ## Transmissions (R88) -/

/-- The completion of a transmission: counted, and the transmitter IDLE (R88). -/
def PortState.transmittedOne (p : PortState) : PortState :=
  { p with transmitted := p.transmitted + 1, transmitter := .idle }

/-- The completion event of a port (R88). The completion of a frame with the restart mark orders the warm restart, and
the transmitter then takes no frame from the emptied queues (R90, R96). -/
def State.completeTransmission (p : Port) (s : State) : State :=
  match (s.port p).transmitter with
  | .idle => s
  | .sending e ends =>
    let s := s.elapse ends
    let s := s.setPort p (s.port p).transmittedOne
    let s := if e.restartMark then (s.raise .restart).takeAll else s
    s.setPort p ((s.port p).startNext s.clock)

/-- TRANSMISSION_COMPLETE (R88). -/
def execTransmissionComplete (port : Port) (s : State) : Host.Outcome State Fault Refusal :=
  .next (s.unlessReset fun s => (s.completeTransmission port).settle)

/-! ## The lease and the acknowledgement timer (R120, R163) -/

/-- The lease expires: the claim passes to no holder and MGMT/CLAIM_EXPIRED is raised (R163). -/
def State.leaseExpires (s : State) : State :=
  match s.agent.lease, s.agent.holder with
  | some t, some a =>
    let s := s.elapseTo t
    (s.setAgent { s.agent with holder := none, lease := none }).raiseEvent .mgmtClaimExpired (a.setWidth 8)
  | _, _ => s

/-- LEASE_EXPIRY (R163). -/
def execLeaseExpiry (s : State) : Host.Outcome State Fault Refusal :=
  .next (s.unlessReset fun s => s.leaseExpires.settle)

/-- Enter STALLED: the outstanding report and its records stay as they are, the timer stopped (R116, R120). -/
def State.stall (s : State) : State := s.setReporter { s.reporter with state := .stalled, timer := none }

/-- The acknowledgement timer expires in WAIT_ACK: resend, or STALLED (R120). -/
def State.ackTimerExpires (s : State) : State :=
  match s.reporter.state, s.reporter.timer with
  | .waitAck, some t =>
    let s := s.elapseTo t
    match s.params.reportAddr with
    | some dest => if s.reporter.retries < s.params.reportRetries then s.resendReport dest else s.stall
    | none => s.stall
  | _, _ => s

/-- ACK_TIMER_EXPIRY (R120). -/
def execAckTimerExpiry (s : State) : Host.Outcome State Fault Refusal :=
  .next (s.unlessReset fun s => s.ackTimerExpires.settle)

/-! ## The timed rows of the other units -/

/-- DEADLINE_EXPIRY (R67). -/
def execDeadlineExpiry (entry : Fin 64) (s : State) : Host.Outcome State Fault Refusal :=
  .next (s.unlessReset fun s => (s.expire entry).settle)

/-- SWEEP_VISIT (R52). -/
def execSweepVisit (s : State) : Host.Outcome State Fault Refusal :=
  .next (s.unlessReset fun s => s.visit.settle)

/-- SENSE_SAMPLE (R149). -/
def execSenseSample (input : Fin 4) (level : Level) (s : State) : Host.Outcome State Fault Refusal :=
  .next (s.unlessReset fun s => (s.sample input level).settle)

/-- REQUEST_COMPLETION (R156). -/
def execRequestCompletion (s : State) : Host.Outcome State Fault Refusal :=
  .next (s.unlessReset fun s => s.completion.settle)

/-! ## What is due when no command waits (log 1) -/

/-- The TIME value has been reached: it does not lie ahead (R15). -/
def State.reached (s : State) (t : Time) : Bool := !before s.time t

/-- Events due at a port. -/
def State.portDue (s : State) (p : Port) : List Instr :=
  (match (s.port p).line, (s.port p).qualification with
    | .offline, some t => if s.reached t then [.qualificationExpiry p] else []
    | _, _ => [])
  ++ (match (s.port p).transmitter with
    | .idle => []
    | .sending _ ends => if s.clock.isBefore ends then [] else [.transmissionComplete p])

/-- The expiry due at a flow entry. -/
def State.flowDue (s : State) (i : Fin 64) : List Instr :=
  match s.flow i with
  | none => []
  | some f =>
    match f.state, f.schedule with
    | .locked, some x => if s.reached x.deadline then [.deadlineExpiry i] else []
    | .overdue, some x => if s.reached x.deadline then [.deadlineExpiry i] else []
    | .recovering, some x => if s.reached x.deadline then [.deadlineExpiry i] else []
    | _, _ => []

/-- The sample due at an input finds the level that stands at its terminal. -/
def State.sampleDue (s : State) (i : Fin 4) : List Instr :=
  if s.reached (s.input i).nextSample then [.senseSample i (s.input i).terminal] else []

/-- The sweep's visit, the lease, the acknowledgement timer and the request in service, where due. -/
def State.unitDue (s : State) : List Instr :=
  (match s.sweep with
    | some w => if s.reached w.nextVisit then [.sweepVisit] else []
    | none => [])
  ++ (match s.agent.lease, s.agent.holder with
    | some t, some _ => if s.reached t then [.leaseExpiry] else []
    | _, _ => [])
  ++ (match s.reporter.state, s.reporter.timer with
    | .waitAck, some t => if s.reached t then [.ackTimerExpiry] else []
    | _, _ => [])
  ++ (match s.agent.service with
    | .serving _ ends _ => if s.reached ends then [.requestCompletion] else []
    | .idle => []
    | .restartWait => [])

/-- A sample that will find the level it found before, agreeing with the debounced state, and no qualification: its
order among other samples cannot be seen. -/
def Sense.inert (x : Sense) : Bool :=
  decide (x.terminal = x.level) && decide (x.raw = x.debounced) && decide (x.qualification = none)

/-- Everything that is due and is not a sample. -/
def State.eventsDue (s : State) : List Instr :=
  allPorts.flatMap s.portDue ++ flowIndices.flatMap s.flowDue ++ s.unitDue

/-- The samples that are due. -/
def State.samplesDue (s : State) : List Instr := inputIndices.flatMap s.sampleDue

/-- The samples due are all inert. -/
def State.samplesInert (s : State) : Bool :=
  inputIndices.all (fun i => (s.sampleDue i).isEmpty || (s.input i).inert)

/-- The event taken when no command waits, if one is due: which one is free, except among inert samples alone. -/
def State.nextDue (s : State) : Option Instr × State :=
  if s.resetAsserted then (none, s)
  else if s.eventsDue.isEmpty && s.samplesInert then (s.samplesDue.head?, s)
  else
    let xs := s.eventsDue ++ s.samplesDue
    let (i, s) := s.choose xs.length
    (xs[i]?, s)

/-- A fifth of a microsecond passes (R14; log 1). TIME does not count while RESET holds the module (log 10). -/
def State.tick (s : State) : State := if s.resetAsserted then s else { s with clock := s.clock.after 1 }

end Sys2Proof.Machine
end

