-- ==== Sys2Proof/Machine/Requests.lean ====
section
/-! DEFINITION. The management commands as commands of the module: each is its request reaching the agent (R18), which
takes and executes it at once when it is IDLE (R156); what the take does is the command's `run` definition. -/
namespace Sys2Proof.Machine

/-- The event of a management command: the request, and everything it raises. -/
def State.command (code : Byte) (q : Req) (s : State) : Host.Outcome State Fault Refusal :=
  .next (s.unlessReset fun s => (s.request code q).settle)

/-- DISCOVER (R167). -/
def execDiscover (req : Req) (s : State) : Host.Outcome State Fault Refusal := s.command Command.discover.code req

/-- CLAIM (R162). -/
def execClaim (req : Req) (s : State) : Host.Outcome State Fault Refusal := s.command Command.claim.code req

/-- RELEASE (R162). -/
def execRelease (req : Req) (s : State) : Host.Outcome State Fault Refusal := s.command Command.release.code req

/-- READ_PARAM (R165). -/
def execReadParam (req : Req) (s : State) : Host.Outcome State Fault Refusal := s.command Command.readParam.code req

/-- WRITE_PARAM (R166). -/
def execWriteParam (req : Req) (s : State) : Host.Outcome State Fault Refusal := s.command Command.writeParam.code req

/-- RESTART (R168). -/
def execRestart (req : Req) (s : State) : Host.Outcome State Fault Refusal := s.command Command.restart.code req

/-- PORT_CONTROL (R12). -/
def execPortControl (req : Req) (s : State) : Host.Outcome State Fault Refusal := s.command Command.portControl.code req

/-- READ_COUNTERS (R32). -/
def execReadCounters (req : Req) (s : State) : Host.Outcome State Fault Refusal := s.command Command.readCounters.code req

/-- SET_ROUTE (R30). -/
def execSetRoute (req : Req) (s : State) : Host.Outcome State Fault Refusal := s.command Command.setRoute.code req

/-- READ_ROUTE (R31). -/
def execReadRoute (req : Req) (s : State) : Host.Outcome State Fault Refusal := s.command Command.readRoute.code req

/-- LOAD_FLOW (R41). -/
def execLoadFlow (req : Req) (s : State) : Host.Outcome State Fault Refusal := s.command Command.loadFlow.code req

/-- RETIME_FLOW (R42). -/
def execRetimeFlow (req : Req) (s : State) : Host.Outcome State Fault Refusal := s.command Command.retimeFlow.code req

/-- ARM_FLOW (R44). -/
def execArmFlow (req : Req) (s : State) : Host.Outcome State Fault Refusal := s.command Command.armFlow.code req

/-- DISARM_FLOW (R45). -/
def execDisarmFlow (req : Req) (s : State) : Host.Outcome State Fault Refusal := s.command Command.disarmFlow.code req

/-- DROP_FLOW (R46). -/
def execDropFlow (req : Req) (s : State) : Host.Outcome State Fault Refusal := s.command Command.dropFlow.code req

/-- READ_FLOW (R47). -/
def execReadFlow (req : Req) (s : State) : Host.Outcome State Fault Refusal := s.command Command.readFlow.code req

/-- CLEAR_TABLE (R51). -/
def execClearTable (req : Req) (s : State) : Host.Outcome State Fault Refusal := s.command Command.clearTable.code req

/-- READ_ATTENTION (R110). -/
def execReadAttention (req : Req) (s : State) : Host.Outcome State Fault Refusal := s.command Command.readAttention.code req

/-- ACK_ATTENTION (R123). -/
def execAckAttention (req : Req) (s : State) : Host.Outcome State Fault Refusal := s.command Command.ackAttention.code req

/-- CLEAR_ATTENTION (R112). -/
def execClearAttention (req : Req) (s : State) : Host.Outcome State Fault Refusal := s.command Command.clearAttention.code req

/-- SET_CAUSE (R113). -/
def execSetCause (req : Req) (s : State) : Host.Outcome State Fault Refusal := s.command Command.setCause.code req

/-- FORCE_ATTENTION (R114). -/
def execForceAttention (req : Req) (s : State) : Host.Outcome State Fault Refusal := s.command Command.forceAttention.code req

/-- DEFINE_RING (R140). -/
def execDefineRing (req : Req) (s : State) : Host.Outcome State Fault Refusal := s.command Command.defineRing.code req

/-- START_RING (R141). -/
def execStartRing (req : Req) (s : State) : Host.Outcome State Fault Refusal := s.command Command.startRing.code req

/-- STOP_RING (R142). -/
def execStopRing (req : Req) (s : State) : Host.Outcome State Fault Refusal := s.command Command.stopRing.code req

/-- TRIGGER_RING (R143). -/
def execTriggerRing (req : Req) (s : State) : Host.Outcome State Fault Refusal := s.command Command.triggerRing.code req

/-- READ_RING (R145). -/
def execReadRing (req : Req) (s : State) : Host.Outcome State Fault Refusal := s.command Command.readRing.code req

/-- DISCARD_RING (R144). -/
def execDiscardRing (req : Req) (s : State) : Host.Outcome State Fault Refusal := s.command Command.discardRing.code req

/-- SENSE_CONFIG (R151). -/
def execSenseConfig (req : Req) (s : State) : Host.Outcome State Fault Refusal := s.command Command.senseConfig.code req

/-- READ_SENSE (R153). -/
def execReadSense (req : Req) (s : State) : Host.Outcome State Fault Refusal := s.command Command.readSense.code req

/-- UNKNOWN_COMMAND (R157, R174): the code names no command. -/
def execUnknownCommand (code : Byte) (req : Req) (s : State) : Host.Outcome State Fault Refusal := s.command code req

end Sys2Proof.Machine
end

