-- ==== Sys2Proof/Machine/Dispatch.lean ====
section
/-! DEFINITION. The meaning of every command: one arm for each, calling its own definition. -/
namespace Sys2Proof.Machine

def exec (i : Instr) (s : State) : Host.Outcome State Fault Refusal :=
  match i with
  | .resetAsserted => Sys2Proof.Machine.execResetAsserted s
  | .coldReset switch => Sys2Proof.Machine.execColdReset switch s
  | .signalValid port => Sys2Proof.Machine.execSignalValid port s
  | .qualificationExpiry port => Sys2Proof.Machine.execQualificationExpiry port s
  | .signalLost port => Sys2Proof.Machine.execSignalLost port s
  | .arrival port bytes => Sys2Proof.Machine.execArrival port bytes s
  | .transmissionComplete port => Sys2Proof.Machine.execTransmissionComplete port s
  | .deadlineExpiry entry => Sys2Proof.Machine.execDeadlineExpiry entry s
  | .sweepVisit => Sys2Proof.Machine.execSweepVisit s
  | .senseSample input level => Sys2Proof.Machine.execSenseSample input level s
  | .leaseExpiry => Sys2Proof.Machine.execLeaseExpiry s
  | .ackTimerExpiry => Sys2Proof.Machine.execAckTimerExpiry s
  | .requestCompletion => Sys2Proof.Machine.execRequestCompletion s
  | .discover req => Sys2Proof.Machine.execDiscover req s
  | .claim req => Sys2Proof.Machine.execClaim req s
  | .release req => Sys2Proof.Machine.execRelease req s
  | .readParam req => Sys2Proof.Machine.execReadParam req s
  | .writeParam req => Sys2Proof.Machine.execWriteParam req s
  | .restart req => Sys2Proof.Machine.execRestart req s
  | .portControl req => Sys2Proof.Machine.execPortControl req s
  | .readCounters req => Sys2Proof.Machine.execReadCounters req s
  | .setRoute req => Sys2Proof.Machine.execSetRoute req s
  | .readRoute req => Sys2Proof.Machine.execReadRoute req s
  | .loadFlow req => Sys2Proof.Machine.execLoadFlow req s
  | .retimeFlow req => Sys2Proof.Machine.execRetimeFlow req s
  | .armFlow req => Sys2Proof.Machine.execArmFlow req s
  | .disarmFlow req => Sys2Proof.Machine.execDisarmFlow req s
  | .dropFlow req => Sys2Proof.Machine.execDropFlow req s
  | .readFlow req => Sys2Proof.Machine.execReadFlow req s
  | .clearTable req => Sys2Proof.Machine.execClearTable req s
  | .readAttention req => Sys2Proof.Machine.execReadAttention req s
  | .ackAttention req => Sys2Proof.Machine.execAckAttention req s
  | .clearAttention req => Sys2Proof.Machine.execClearAttention req s
  | .setCause req => Sys2Proof.Machine.execSetCause req s
  | .forceAttention req => Sys2Proof.Machine.execForceAttention req s
  | .defineRing req => Sys2Proof.Machine.execDefineRing req s
  | .startRing req => Sys2Proof.Machine.execStartRing req s
  | .stopRing req => Sys2Proof.Machine.execStopRing req s
  | .triggerRing req => Sys2Proof.Machine.execTriggerRing req s
  | .readRing req => Sys2Proof.Machine.execReadRing req s
  | .discardRing req => Sys2Proof.Machine.execDiscardRing req s
  | .senseConfig req => Sys2Proof.Machine.execSenseConfig req s
  | .readSense req => Sys2Proof.Machine.execReadSense req s
  | .unknownCommand code req => Sys2Proof.Machine.execUnknownCommand code req s
  | .receptionStart port => Sys2Proof.Machine.execReceptionStart port s

end Sys2Proof.Machine
end

