-- ==== Sys2Proof/Safety.lean ====
section
/-! DEFINITION. The vocabulary of the statements: when a management command is taken at once, what a take leaves, and
the invariants of the blocks. -/
namespace Sys2Proof.Machine

/-! ## Management commands as requests -/

/-- The command code and the request of a management row. -/
def asRequest : Instr → Option (Byte × Req)
  | .discover q => some (Command.discover.code, q)
  | .claim q => some (Command.claim.code, q)
  | .release q => some (Command.release.code, q)
  | .readParam q => some (Command.readParam.code, q)
  | .writeParam q => some (Command.writeParam.code, q)
  | .restart q => some (Command.restart.code, q)
  | .portControl q => some (Command.portControl.code, q)
  | .readCounters q => some (Command.readCounters.code, q)
  | .setRoute q => some (Command.setRoute.code, q)
  | .readRoute q => some (Command.readRoute.code, q)
  | .loadFlow q => some (Command.loadFlow.code, q)
  | .retimeFlow q => some (Command.retimeFlow.code, q)
  | .armFlow q => some (Command.armFlow.code, q)
  | .disarmFlow q => some (Command.disarmFlow.code, q)
  | .dropFlow q => some (Command.dropFlow.code, q)
  | .readFlow q => some (Command.readFlow.code, q)
  | .clearTable q => some (Command.clearTable.code, q)
  | .readAttention q => some (Command.readAttention.code, q)
  | .ackAttention q => some (Command.ackAttention.code, q)
  | .clearAttention q => some (Command.clearAttention.code, q)
  | .setCause q => some (Command.setCause.code, q)
  | .forceAttention q => some (Command.forceAttention.code, q)
  | .defineRing q => some (Command.defineRing.code, q)
  | .startRing q => some (Command.startRing.code, q)
  | .stopRing q => some (Command.stopRing.code, q)
  | .triggerRing q => some (Command.triggerRing.code, q)
  | .readRing q => some (Command.readRing.code, q)
  | .discardRing q => some (Command.discardRing.code, q)
  | .senseConfig q => some (Command.senseConfig.code, q)
  | .readSense q => some (Command.readSense.code, q)
  | .unknownCommand code q => some (code, q)
  | .resetAsserted => none
  | .coldReset _ => none
  | .signalValid _ => none
  | .qualificationExpiry _ => none
  | .signalLost _ => none
  | .arrival _ _ => none
  | .transmissionComplete _ => none
  | .deadlineExpiry _ => none
  | .sweepVisit => none
  | .senseSample _ _ => none
  | .leaseExpiry => none
  | .ackTimerExpiry => none
  | .requestCompletion => none
  | .receptionStart _ => none

/-- The module takes management requests: addressed, not held in reset, nothing raised and not yet taken. -/
def State.listening (s : State) : Prop :=
  s.resetAsserted = false ∧ s.addressed = true ∧ s.raised = []

/-- The request of a station does not end a stall: the reporter is not STALLED, or the station is not REPORT_ADDR
(R121). -/
def State.keepsStall (q : Req) (s : State) : Prop :=
  s.reporter.state ≠ .stalled ∨ s.params.reportAddr ≠ some q.requester

/-- A management command under this code is taken at once: the agent is IDLE with an empty queue, no cache entry answers
the request, nothing with its requester and tag is in flight, and it ends no stall (R18, R156). -/
def State.ready (code : Byte) (q : Req) (s : State) : Prop :=
  s.listening ∧ s.keepsStall q ∧ s.agent.service = .idle ∧ s.agent.queue = []
  ∧ cacheHit (requestOf code q) s.agent.cache = none ∧ s.inFlight (requestOf code q) = false

/-- The requester holds the claim. -/
abbrev State.heldBy (q : Req) (s : State) : Prop := s.agent.holder = some q.requester

/-- The agent serves a request for 20 µs with a fixed reply; what the command raised is taken, and ALERT follows
(R156, R107). -/
def State.served (code : Byte) (q : Req) (reply : Reply) (s : State) : State :=
  (s.setAgent { s.agent with service := .serving (requestOf code q) (s.time + 20) reply }).settle

/-- The agent serves a request it has refused (R157). -/
def State.refusing (code : Byte) (q : Req) (st : Status) (s : State) : State := s.served code q (.answer st [])

/-- The state with the lease started for LEASE_TIME × 10 ms (R163). -/
def State.leased (s : State) : State :=
  s.setAgent { s.agent with lease := some (s.time + tenMs s.params.leaseTime) }

/-! ## Cold-reset values -/

/-- The port values of R8, R33 and R97. -/
def PortState.cold (p : PortState) : Prop :=
  p.line = .offline ∧ p.admin = .enabled ∧ p.qualification = none ∧ p.receiving = false
  ∧ p.transmitted = 0 ∧ p.aborted = 0 ∧ p.fragments = 0 ∧ p.full = 0 ∧ p.blocked = 0 ∧ p.offline = 0
  ∧ (∀ i : Fin 15, p.verdicts[i] = 0) ∧ p.urgent = [] ∧ p.normal = [] ∧ p.transmitter = .idle

/-- The values of an input of R154. -/
def Sense.cold (x : Sense) : Prop :=
  x.polarity = .activeHigh ∧ x.debounce = 0 ∧ x.edges = .noEdge ∧ x.debounced = .deasserted ∧ x.qualification = none
  ∧ x.nextSample = 0 ∧ x.settled = false

/-- The parameter defaults of R164. -/
def Params.cold (x : Params) : Prop :=
  x.unmatchedPolicy = .forward ∧ x.mgmtPorts = onlyPort .u ∧ x.reportAddr = none ∧ x.reportInterval = 5
  ∧ x.reportRetries = 5 ∧ x.leaseTime = 200 ∧ x.alertRank = 1 ∧ x.genHop = 15

/-- The default rank of each cause (R99). -/
def Cause.defaultRank : Cause → Nat
  | .flowOverdue => 2
  | .flowLost => 0
  | .flowRecovered => 4
  | .flowSeqBreak => 3
  | .flowEarly => 5
  | .flowWrongPort => 3
  | .flowLength => 3
  | .portOffline => 1
  | .portOnline => 5
  | .portEgressDrop => 4
  | .portLoop => 2
  | .ringFrozen => 6
  | .senseAsserted => 3
  | .senseDeasserted => 3
  | .mgmtClaimExpired => 5
  | .mgmtRequestDropped => 6
  | .testForced => 0

/-- The values that every block takes at a cold reset with the switch at `switch` (R8, R33, R55, R97, R115, R129, R147,
R154, R164, R171). The rank entry of TEST/FORCED has no default in R99 and is left out. -/
def State.cold (switch : Address) (s : State) : Prop :=
  s.station = switch ∧ s.clock = ⟨0, 0⟩ ∧ s.resetAsserted = false ∧ s.alert = false
  ∧ (∀ p, (s.port p).cold)
  ∧ (∀ a : Fin 127, s.routes[a] = .default)
  ∧ (∀ i, s.flow i = none) ∧ s.sweep = none
  ∧ s.attention.records = [] ∧ s.attention.lost = 0 ∧ s.attention.nextId = 1
  ∧ (∀ c, (s.attention.setting c).masked = false ∧ (c ≠ .testForced → (s.attention.setting c).rank = c.defaultRank))
  ∧ s.reporter.state = .idle ∧ s.reporter.tag = 0 ∧ s.reporter.outstanding = [] ∧ s.reporter.retries = 0
  ∧ s.reporter.timer = none
  ∧ (∀ k, s.ring k = none)
  ∧ (∀ i, (s.input i).cold)
  ∧ s.agent.service = .idle ∧ s.agent.queue = [] ∧ s.agent.sweepPending = none ∧ s.agent.holder = none
  ∧ s.agent.lease = none ∧ s.agent.cache = [] ∧ s.params.cold

/-! ## Arrivals -/

/-- A frame that passed the check is not local and not a DISCOVER for the agent, and passes the loop, blocked-ingress
and hop stages (R17, R19, R20). -/
def State.passesScreen (p : Port) (x : Frame) (s : State) : Prop :=
  s.isLocal x = false ∧ s.offersDiscover p x = false ∧ ¬(s.addressed = true ∧ x.src = s.station)
  ∧ (s.port p).admin = .enabled ∧ x.hop ≠ 0

/-- No valid entry in a state other than DISABLED carries the key of a frame (R21, R22). -/
def State.unmatched (x : Frame) (s : State) : Prop :=
  ∀ i f, s.flow i = some f → f.carriesKey x = true → f.state = .disabled

/-- An arriving frame comes to the route stage (R21 to R24). -/
def State.toBeRouted (p : Port) (x : Frame) (s : State) : Prop :=
  s.passesScreen p x
  ∧ (x.kind = .acy ∨ x.kind = .mgt ∨ x.kind = .mrs ∨ x.kind = .atn
    ∨ (x.kind = .cyc ∧ s.unmatched x ∧ s.params.unmatchedPolicy = .forward)
    ∨ (x.kind = .sub ∧ (s.unmatched x ∨ ∃ i f, s.lookup x = some (i, f) ∧ f.defn.ingress ≠ p)))

/-- An arrival on a port that `t` has handled has this verdict, given under this flow entry: the verdict is counted for the
ingress port and one notice is offered (R16, R27, R29). -/
def State.concluded (p : Port) (bytes : List Byte) (x : Option Frame) (v : Verdict) (flow : Option (Fin 64))
    (t : State) : State :=
  (t.setPort p ((t.port p).countVerdict v)).raise (.notice (arrivalNotice t.time p bytes x v flow))

/-- The arrival is over with this verdict: what was raised is taken. -/
def State.arrived (p : Port) (bytes : List Byte) (x : Option Frame) (v : Verdict) (flow : Option (Fin 64)) (t : State) :
    State :=
  (State.concluded p bytes x v flow t).settle

/-! ## Invariants -/

/-- Egress queues of one port (R82, R83, R91, R93): capacities and origins; an OFFLINE port holds and sends nothing; a
BLOCKED port holds no forwarded copy and no SUB frame. -/
def PortState.ok (p : PortState) : Prop :=
  p.urgent.length ≤ 4 ∧ p.normal.length ≤ 12
  ∧ (∀ e ∈ p.urgent, e.origin ≠ .forward) ∧ (∀ e ∈ p.normal, e.origin = .forward)
  ∧ (p.line = .offline → p.urgent = [] ∧ p.normal = [] ∧ p.transmitter = .idle)
  ∧ (p.admin = .blocked → p.normal = [] ∧ ∀ e ∈ p.urgent, e.origin ≠ .sub)

/-- R82, R83, R91, R93 at the three ports. -/
def State.queuesOk (s : State) : Prop := ∀ p, (s.port p).ok

/-- The attention list (R100, R101, R103, R106): at most 32 records in order of rank, never two of one cause and object,
ids from 1 to 65535 and distinct, counts from 1 to 255; the lost count and the record-id counter are in their ranges. -/
def Attention.ok (a : Attention) : Prop :=
  a.records.length ≤ 32
  ∧ a.records.Pairwise (fun x y => x.rank ≤ y.rank)
  ∧ a.records.Pairwise (fun x y => ¬(x.cause = y.cause ∧ x.object = y.object))
  ∧ a.records.Pairwise (fun x y => x.id ≠ y.id)
  ∧ (∀ r ∈ a.records, 1 ≤ r.id ∧ r.id ≤ 65535 ∧ 1 ≤ r.count ∧ r.count ≤ 255)
  ∧ a.lost ≤ 65535 ∧ 1 ≤ a.nextId ∧ a.nextId ≤ 65535

/-- The runtime fields that a state fixes (R36, R57). -/
def Flow.fieldsOk (f : Flow) : Prop :=
  match f.state with
  | .disabled =>
    f.schedule = none ∧ f.lastSeq = none ∧ f.misses = 0 ∧ f.good = 0 ∧ f.subs = 0
  | .armed =>
    f.schedule = none ∧ f.lastSeq = none ∧ f.misses = 0 ∧ f.good = 0 ∧ f.subs = 0
  | .locked =>
    f.schedule.isSome ∧ f.lastSeq.isSome ∧ f.misses = 0 ∧ f.good = 0 ∧ f.subs = 0
  | .overdue =>
    f.schedule.isSome ∧ f.lastSeq.isSome ∧ 1 ≤ f.misses ∧ f.misses < f.defn.lossThreshold ∧ f.good = 0
    ∧ f.subs ≤ f.defn.subLimit
  | .lost =>
    f.schedule = none ∧ f.lastSeq.isSome ∧ f.misses = f.defn.lossThreshold ∧ f.good = 0 ∧ f.subs ≤ f.defn.subLimit
  | .recovering =>
    f.schedule.isSome ∧ f.lastSeq.isSome ∧ f.misses = 0 ∧ 1 ≤ f.good ∧ f.good < f.defn.recovery ∧ f.subs = 0

/-- One valid flow entry (R35, R36, R38, R39, R57, R60): its definition is legal; its runtime fields are those of its
state; it holds a hold slot exactly when its miss policy needs one; hold content stands only in a slot and within the
length range. -/
def Flow.ok (f : Flow) : Prop :=
  f.defn.legal = true ∧ f.fieldsOk
  ∧ (f.holdSlot.isSome = f.defn.needsHold)
  ∧ (∀ c, f.holdContent = some c → f.holdSlot.isSome ∧ f.defn.lenMin ≤ c.length ∧ c.length ≤ f.defn.lenMax)

/-- The flow table (R34, R38): every valid entry is in order, no two carry one key, no two hold one slot. -/
def State.flowsOk (s : State) : Prop :=
  (∀ i f, s.flow i = some f → f.ok)
  ∧ (∀ i j f g, i ≠ j → s.flow i = some f → s.flow j = some g → f.defn.sameKey g.defn = false)
  ∧ (∀ i j f g k, i ≠ j → s.flow i = some f → s.flow j = some g → f.holdSlot = some k → g.holdSlot ≠ some k)

/-- One defined ring (R132, R133): a legal definition, no more records than slots, `remaining` in POSTFILL only, from 1
to size − 1. -/
def Ring.ok (r : Ring) : Prop :=
  r.defn.legal = true ∧ r.held ≤ r.defn.size
  ∧ (match r.state with
    | .postfill => ∃ n, r.remaining = some n ∧ 1 ≤ n ∧ n ≤ r.defn.size - 1
    | .idle => r.remaining = none
    | .running => r.remaining = none
    | .frozen => r.remaining = none)

/-- The capture unit (R130, R132): every defined ring is in order, no two share a slot, and capture memory keeps its
canonical form. -/
def State.captureOk (s : State) : Prop :=
  (∀ k r, s.ring k = some r → r.ok)
  ∧ (∀ j k a b, j ≠ k → s.ring j = some a → s.ring k = some b → a.defn.overlaps b.defn = false)
  ∧ s.capture.memory.wf = true

/-- An outstanding report is present (R116): 1 to 4 items, one of them at least not acknowledged, at most 15 retries. -/
def Reporter.reportOk (r : Reporter) : Prop :=
  1 ≤ r.outstanding.length ∧ r.outstanding.length ≤ 4 ∧ (∃ i ∈ r.outstanding, i.acked = false) ∧ r.retries ≤ 15

/-- The reporter (R116): what each state says of the outstanding report, the retry count and the timer. -/
def Reporter.ok (r : Reporter) : Prop :=
  match r.state with
  | .idle => r.outstanding = [] ∧ r.retries = 0 ∧ r.timer = none
  | .waitAck => r.reportOk ∧ r.timer.isSome
  | .stalled => r.reportOk ∧ r.timer = none

/-- The reporter among the other units (R116, R164): REPORT_RETRIES bounds the retry count by 15, and a record is REPORTED
only as an item of the outstanding report that is not acknowledged. -/
def State.reporterOk (s : State) : Prop :=
  s.reporter.ok ∧ s.params.reportRetries ≤ 15
  ∧ ∀ r ∈ s.attention.records, r.state = .reported → ∃ i ∈ s.reporter.outstanding, i.id = r.id ∧ i.acked = false

/-- The agent (R155, R156, R159, R161, R163): capacities; no two queued requests of one requester and tag; no two cache
entries of one requester; an IDLE agent has no queued request; the lease runs exactly while the claim is held. -/
def Agent.ok (a : Agent) : Prop :=
  a.queue.length ≤ 4
  ∧ a.queue.Pairwise (fun x y => ¬(x.requester = y.requester ∧ x.tag = y.tag))
  ∧ a.cache.length ≤ 4
  ∧ a.cache.Pairwise (fun x y => x.requester ≠ y.requester)
  ∧ (a.service = .idle → a.queue = [])
  ∧ (a.lease.isSome = a.holder.isSome)

/-- ALERT is asserted exactly while its condition holds and RESET is not asserted (R107). -/
def State.alertOk (s : State) : Prop := s.alert = (!s.resetAsserted && s.alertCondition)

end Sys2Proof.Machine
end

