-- ==== Sys2Proof/Certificates/Slice0/Obligations.lean ====
section
/-! DEFINITION. The statements for the provers. A clause that rests on a choice of the model names its log entry. -/

open Sys2Proof Sys2Proof.Machine

/-! ## The step -/

/-- A step runs the command at the front of the queue on the state with the rest of the queue. -/
def Obligations.StepRunsFrontCommand : Prop :=
  ∀ (c : Instr) (rest : List Instr) (s : State), s.pending = c :: rest → step s = exec c { s with pending := rest }

/-- On an empty queue: nothing while RESET is asserted; an event that is due, where one is; else a fifth of a microsecond
passes. The model's choice, log 1 and log 10. -/
def Obligations.StepOnEmptyQueue : Prop :=
  ∀ s : State, s.pending = [] →
    (s.resetAsserted = true → step s = .next s)
    ∧ (s.resetAsserted = false → s.eventsDue = [] → s.samplesDue = [] →
        step s = .next { s with clock := s.clock.after 1 })
    ∧ (s.resetAsserted = false → s.eventsDue ++ s.samplesDue ≠ [] →
        ∃ c ∈ s.eventsDue ++ s.samplesDue, ∃ n, step s = exec c { s with choices := n })

/-- Every command answers a next state in every state, and leaves the commands that wait as they are. -/
def Obligations.EveryCommandCompletes : Prop :=
  ∀ (c : Instr) (s : State), ∃ t, exec c s = .next t ∧ t.pending = s.pending

/-! ## Reset -/

/-- RESET_ASSERTED ends every transmission and reception uncounted, deasserts ALERT and holds the module, and while it
is held no command but COLD_RESET and RESET_ASSERTED has an effect. What is held meanwhile is the model's choice,
log 10. COLD_RESET: the switch is read and every block takes its cold-reset values, in every state; what stands
outside the module stays. -/
def Obligations.ResetHoldsAndColdResetClears : Prop :=
  ((∀ s : State, ∃ t, exec .resetAsserted s = .next t
      ∧ t.resetAsserted = true ∧ t.alert = false
      ∧ (∀ p, t.port p = { s.port p with transmitter := .idle, receiving := false })
      ∧ t = { s with resetAsserted := true, alert := false, ports := t.ports })
    ∧ (∀ (s : State) (c : Instr), s.resetAsserted = true → c ≠ .resetAsserted → (∀ a, c ≠ .coldReset a) →
        exec c s = .next s))
  ∧ (∀ (a : Address) (s : State), ∃ t, exec (.coldReset a) s = .next t ∧ t.cold a
      ∧ t.pending = s.pending ∧ (∀ i, (t.input i).terminal = (s.input i).terminal))

/-- The state after reset has the cold-reset values, an empty queue, and every invariant. The switch at 0 is the
model's choice, log 6. -/
def Obligations.ResetStateIsColdAndInOrder : Prop :=
  State.reset.cold 0 ∧ State.reset.pending = [] ∧ State.reset.raised = []
  ∧ State.reset.queuesOk ∧ State.reset.attention.ok ∧ State.reset.flowsOk ∧ State.reset.captureOk
  ∧ State.reset.reporterOk ∧ State.reset.agent.ok ∧ State.reset.alertOk

/-! ## Invariants that every step keeps -/

/-- Capacities and origins of the egress queues, no frame at an OFFLINE port, no line traffic queued at a BLOCKED port. -/
def Obligations.StepKeepsQueues : Prop :=
  ∀ s t : State, s.queuesOk → step s = .next t → t.queuesOk

/-- The attention list: its capacity and order, one record for a cause and object, distinct ids, ranges. -/
def Obligations.StepKeepsAttentionList : Prop :=
  ∀ s t : State, s.attention.ok → step s = .next t → t.attention.ok

/-- The flow table: legal definitions, the runtime fields of each state, unique keys, the hold pool. -/
def Obligations.StepKeepsFlowTable : Prop :=
  ∀ s t : State, s.flowsOk → step s = .next t → t.flowsOk

/-- The capture unit: legal and disjoint rings, `remaining` in POSTFILL only, capture memory in canonical form. -/
def Obligations.StepKeepsCaptureUnit : Prop :=
  ∀ s t : State, s.captureOk → step s = .next t → t.captureOk

/-- The reporter: outstanding report, retry count and timer as its state says, and no record REPORTED but as an item of the
outstanding report that is not acknowledged. -/
def Obligations.StepKeepsReporter : Prop :=
  ∀ s t : State, s.attention.ok → s.reporterOk → step s = .next t → t.reporterOk

/-- The agent: capacities of queue and cache, one entry for a requester and tag, an IDLE agent has no queued request, the
lease runs exactly while the claim is held. -/
def Obligations.StepKeepsAgent : Prop :=
  ∀ s t : State, s.agent.ok → step s = .next t → t.agent.ok

/-- ALERT is asserted exactly while the list holds a record of rank not greater than ALERT_RANK or the reporter is
STALLED, and never while RESET is asserted. -/
def Obligations.StepKeepsAlert : Prop :=
  ∀ s t : State, s.alertOk → step s = .next t → t.alertOk

/-- Whatever a command raises is taken before the command ends (the model's choice where two rows stand for one moment,
log 21), and ALERT follows. One thing raised after another is taken
by its unit: FLOW events in their order, and an ACK_ATTENTION before the stall exit of its arrival, the order being
free otherwise (log 3, log 13); what is dropped would have had no effect. Then what each unit does with what it takes:
the attention unit with an event, the capture unit at its eight rings with an announcement or a notice, every block with
the warm restart, a queue with an offer, the agent with its take, the reporter with a stall exit. -/
def Obligations.StepTakesEverythingRaised : Prop :=
  (∀ s t : State, s.raised = [] → step s = .next t → t.raised = [])
  ∧ (∀ s : State,
      s.takeAll.raised = []
      ∧ s.settle = (let t := s.takeAll
        { t with alert := !t.resetAsserted
            && (t.attention.records.any (fun r => decide (r.rank ≤ t.params.alertRank))
              || decide (t.reporter.state = .stalled)) })
      ∧ (s.raised = [] → s.takeAll = s)
      ∧ (∀ x, s.live x = false → s.takeRaised x = s)
      ∧ s.takeAll = ({ s with raised := s.raised.filter s.live } : State).takeAll
      ∧ (∀ x, s.raised = [x] → s.live x = true →
        s.takeAll = (({ s with raised := [] } : State).takeRaised x).takeAll)
      ∧ ((∀ x ∈ s.raised, s.live x = true) → s.raised ≠ [] → ∃ x ∈ s.raised, ∃ n,
        s.takeAll = (({ s with raised := s.raised.erase x, choices := n } : State).takeRaised x).takeAll
        ∧ (∀ earlier later, x.isFlow = true → s.raised = earlier ++ x :: later → x ∉ earlier →
          ∀ y ∈ earlier, y.isFlow = false)
        ∧ (∀ a r rest, x = .stallExit a → s.agent.queue = r :: rest → r.code = 0x31 → .take ∉ s.raised)))
  ∧ (∀ s : State,
      (∀ e, s.takeRaised (.attention e)
        = ((s.raise (.announce e.cause e.object)).setAttention (s.attention.take e).2).pollReporter)
      ∧ (∀ c object, s.takeRaised (.announce c object)
        = ([0, 1, 2, 3, 4, 5, 6, 7] : List (Fin 8)).foldl (fun t k => t.triggerBy c object k) s)
      ∧ (∀ n, s.takeRaised (.notice n)
        = ([0, 1, 2, 3, 4, 5, 6, 7] : List (Fin 8)).foldl (fun t k => t.record n k) s)
      ∧ s.takeRaised .restart = s.warmRestart
      ∧ (∀ p e, s.takeRaised (.offer p e) = s.enqueue p e)
      ∧ (∀ a, s.takeRaised (.stallExit a) = s.stallExit a)
      ∧ (∀ r rest, s.agent.service = .idle → s.agent.queue = r :: rest →
        let x := run r (s.setAgent { s.agent with queue := rest })
        s.takeRaised .take
          = x.2.setAgent { x.2.agent with service := .serving r (x.2.time + 20) x.1 })
      ∧ ((s.agent.service ≠ .idle ∨ s.agent.queue = []) → s.takeRaised .take = s))

/-! ## Encodings -/

/-- A frame the module builds is read back as itself by the receive check and the field positions. -/
def Obligations.FrameReadsBack : Prop :=
  ∀ f : Frame, f.payload.length ≤ 60 → f.src ≠ 127 →
    Frame.parse f.sealed.bytes = some f.sealed ∧ f.sealed.bytes.length = f.payload.length + 8

/-- A legal definition is stored and returned exactly as offered: its 23 bytes give it back. -/
def Obligations.DefinitionReadsBack : Prop :=
  ∀ d : FlowDef, d.legal = true → FlowDef.ofBytes d.bytes = some d ∧ d.bytes.length = 23

/-! ## Line events -/

/-- SIGNAL_VALID, QUALIFICATION_EXPIRY and RECEPTION_START: the 100 µs interval starts, ends in ONLINE with PORT/ONLINE,
and a reception is noted; where they cannot occur they change nothing (log 4). Nothing else of the module changes but
what taking PORT/ONLINE brings. TIME moved on to the end of the interval is the model's choice, log 2. -/
def Obligations.LineComesOnline : Prop :=
  ∀ (p : Port) (s : State), s.resetAsserted = false →
    ((s.port p).line = .offline → (s.port p).qualification = none →
      exec (.signalValid p) s
        = .next (s.setPort p { s.port p with qualification := some (s.time + 100) }).settle)
    ∧ ((s.port p).line = .online ∨ (s.port p).qualification ≠ none →
      exec (.signalValid p) s = .next s.settle)
    ∧ (∀ e, (s.port p).line = .offline → (s.port p).qualification = some e →
      exec (.qualificationExpiry p) s
        = .next (((s.elapseTo e).setPort p { s.port p with line := .online, qualification := none }).raiseEvent
            .portOnline (portByte p)).settle)
    ∧ ((s.port p).line = .online ∨ (s.port p).qualification = none →
      exec (.qualificationExpiry p) s = .next s.settle)
    ∧ ((s.port p).line = .online →
      exec (.receptionStart p) s = .next (s.setPort p { s.port p with receiving := true }).settle)
    ∧ ((s.port p).line = .offline → exec (.receptionStart p) s = .next s.settle)

/-- SIGNAL_LOST: a qualification is abandoned; an ONLINE port goes OFFLINE, counts a fragment, an aborted transmission and
every frame flushed, and raises PORT/OFFLINE; the loss of a frame with the restart mark orders the warm restart. -/
def Obligations.SignalLossTakesPortOffline : Prop :=
  ∀ (p : Port) (s : State), s.resetAsserted = false →
    ((s.port p).line = .offline →
      exec (.signalLost p) s = .next (s.setPort p { s.port p with qualification := none }).settle)
    ∧ ((s.port p).line = .online → ∃ x : PortState,
      x.line = .offline ∧ x.admin = (s.port p).admin ∧ x.urgent = [] ∧ x.normal = [] ∧ x.transmitter = .idle
      ∧ x.receiving = false ∧ x.qualification = (s.port p).qualification
      ∧ x.fragments = (s.port p).fragments + (if (s.port p).receiving then 1 else 0)
      ∧ x.aborted = (s.port p).aborted + (if (s.port p).transmitter = .idle then 0 else 1)
      ∧ x.offline = (s.port p).offline + BitVec.ofNat 32 ((s.port p).urgent.length + (s.port p).normal.length)
      ∧ x.transmitted = (s.port p).transmitted ∧ x.full = (s.port p).full ∧ x.blocked = (s.port p).blocked
      ∧ x.verdicts = (s.port p).verdicts
      ∧ ((s.port p).holdsMark = false →
          exec (.signalLost p) s = .next ((s.setPort p x).raiseEvent .portOffline (portByte p)).settle)
      ∧ ((s.port p).holdsMark = true →
          exec (.signalLost p) s
            = .next (((s.setPort p x).raiseEvent .portOffline (portByte p)).raise .restart).settle))

/-- TRANSMISSION_COMPLETE: the frame is counted and the transmitter takes the next; the completion of the RESTART response
makes the warm restart, whose cleared counters include this completion's (log 12). An IDLE transmitter has no completion
(log 4). The clock moved on to the completion is the model's choice, log 2. -/
def Obligations.TransmissionCompletes : Prop :=
  ∀ (p : Port) (s : State), s.resetAsserted = false →
    ((s.port p).transmitter = .idle → exec (.transmissionComplete p) s = .next s.settle)
    ∧ (∀ e ends, (s.port p).transmitter = .sending e ends → e.restartMark = false →
      exec (.transmissionComplete p) s
        = .next ((s.elapse ends).setPort p
            (({ s.port p with transmitted := (s.port p).transmitted + 1, transmitter := .idle } : PortState).startNext
              (s.elapse ends).clock)).settle)
    ∧ (∀ e ends, (s.port p).transmitter = .sending e ends → e.restartMark = true → s.raised = [] →
      exec (.transmissionComplete p) s
        = .next (((s.elapse ends).setPort p
            { s.port p with transmitted := (s.port p).transmitted + 1, transmitter := .idle }).warmRestart).refreshAlert)

/-! ## Egress queues and the warm restart -/

/-- An offer to a queue: refused at an OFFLINE port, refused at a BLOCKED port for FORWARD and SUB, refused by a full
queue with PORT/EGRESS_DROP, else accepted at the tail of the queue its origin fixes; a refused frame with the
restart mark tells the agent. The transmitter's choice: IDLE on an ONLINE port it takes the head of URGENT, else of
NORMAL, for (LEN + 12) × 0.8 µs; SENDING, OFFLINE or with empty queues it takes none. -/
def Obligations.OffersAndTheTransmitter : Prop :=
  (∀ (p : Port) (e : QueueEntry) (s : State),
      let x := s.port p
      let told := if e.restartMark then [Raised.restart] else []
      let room := if e.origin = Origin.forward then x.normal.length < 12 else x.urgent.length < 4
      (x.line = .offline →
        s.enqueue p e = { s.setPort p { x with offline := x.offline + 1 } with raised := s.raised ++ told })
      ∧ (x.line = .online → x.admin = .blocked → (e.origin = .forward ∨ e.origin = .sub) →
        s.enqueue p e = { s.setPort p { x with blocked := x.blocked + 1 } with raised := s.raised ++ told })
      ∧ (x.line = .online → (x.admin = .enabled ∨ e.origin = .mrs ∨ e.origin = .atn) → ¬room →
        s.enqueue p e = { s.setPort p { x with full := x.full + 1 } with
          raised := s.raised ++ [.attention ⟨.portEgressDrop, portByte p, s.time, none, none⟩] ++ told })
      ∧ (x.line = .online → (x.admin = .enabled ∨ e.origin = .mrs ∨ e.origin = .atn) → room →
        let joined : PortState := if e.origin = Origin.forward
          then { x with normal := x.normal ++ [e] } else { x with urgent := x.urgent ++ [e] }
        s.enqueue p e = s.setPort p (joined.startNext s.clock)))
  ∧ (∀ (x : PortState) (now : Moment),
      (∀ e rest, x.line = .online → x.transmitter = .idle → x.urgent = e :: rest →
        x.startNext now = { x with
          urgent := rest, transmitter := .sending e (now.after ((e.frame.payload.length + 12) * 4)) })
      ∧ (∀ e rest, x.line = .online → x.transmitter = .idle → x.urgent = [] → x.normal = e :: rest →
        x.startNext now = { x with
          normal := rest, transmitter := .sending e (now.after ((e.frame.payload.length + 12) * 4)) })
      ∧ ((x.line = .offline ∨ x.transmitter ≠ .idle ∨ (x.urgent = [] ∧ x.normal = [])) → x.startNext now = x))

/-- The warm restart at every block, field by field, in every state. -/
def Obligations.WarmRestartAtEveryBlock : Prop :=
  ∀ s : State, let t := s.warmRestart
    (∀ p, t.port p = { s.port p with
      transmitted := 0, aborted := 0, fragments := 0, full := 0, blocked := 0, offline := 0
      verdicts := .replicate 15 0, urgent := [], normal := [] })
    ∧ (∀ i, s.flow i = none → t.flow i = none)
    ∧ (∀ i f, s.flow i = some f → ∃ g, t.flow i = some g
      ∧ g.defn = f.defn ∧ g.holdSlot = f.holdSlot ∧ g.holdContent = none ∧ g.schedule = none ∧ g.lastSeq = none
      ∧ g.misses = 0 ∧ g.good = 0 ∧ g.subs = 0 ∧ g.counters = .zero
      ∧ (f.state = .disabled → g.state = .disabled) ∧ (f.state ≠ .disabled → g.state = .armed))
    ∧ t.sweep = none
    ∧ t.attention = { s.attention with records := [], lost := 0 }
    ∧ t.reporter = ⟨.idle, s.reporter.tag, [], 0, none⟩
    ∧ (∀ k, s.ring k = none → t.ring k = none)
    ∧ (∀ k r, s.ring k = some r → r.state = .frozen → t.ring k = some r)
    ∧ (∀ k r, s.ring k = some r → r.state ≠ .frozen → t.ring k = some ⟨r.defn, .idle, 0, 0, none⟩)
    ∧ t.capture.memory = s.capture.memory
    ∧ t.agent = ⟨[], .idle, none, none, none, [], s.agent.params⟩
    ∧ t.routes = s.routes ∧ t.sense = s.sense ∧ t.clock = s.clock ∧ t.station = s.station
    ∧ t.pending = s.pending

/-! ## Arrivals -/

/-- An OFFLINE port takes no arrival; on an ONLINE port a reception that fails the receive check gets DROP_CHECK, and a
local frame that carries no request on a management port gets DROP_MGMT; nothing else happens to either. The
screening stages: loop with PORT/LOOP, then blocked ingress, then hop. -/
def Obligations.CheckLocalAndScreeningStages : Prop :=
  (∀ (p : Port) (bytes : List Byte) (s : State), s.resetAsserted = false →
      ((s.port p).line = .offline → exec (.arrival p bytes) s = .next s.settle)
      ∧ ((s.port p).line = .online →
        (bytes.length < 8 ∨ bytes.length ≠ (byteAt bytes 5).toNat + 8 ∨ 60 < (byteAt bytes 5).toNat
          ∨ 6 ≤ (byteAt bytes 2).toNat / 32 ∨ (byteAt bytes 1).toNat / 2 = 127
          ∨ crc16 (bytes.take (bytes.length - 2))
              ≠ byteAt bytes (bytes.length - 2) ++ byteAt bytes (bytes.length - 1)) →
        exec (.arrival p bytes) s = .next (State.arrived p bytes none .dropCheck none (s.endReception p)))
      ∧ (∀ x, (s.port p).line = .online → Frame.parse bytes = some x → s.addressed = true → x.dst = s.station →
        ¬(x.kind = .mgt ∧ portIn s.params.mgmtPorts p = true ∧ x.payload ≠ []) →
        exec (.arrival p bytes) s = .next (State.arrived p bytes (some x) .dropMgmt none (s.endReception p))))
  ∧ (∀ (p : Port) (bytes : List Byte) (x : Frame) (s : State), s.resetAsserted = false → (s.port p).line = .online →
      Frame.parse bytes = some x → s.isLocal x = false → s.offersDiscover p x = false →
      (s.addressed = true → x.src = s.station →
        exec (.arrival p bytes) s
          = .next (State.arrived p bytes (some x) .dropLoop none ((s.endReception p).raiseEvent .portLoop (portByte p))))
      ∧ ((s.addressed = false ∨ x.src ≠ s.station) → (s.port p).admin = .blocked →
        exec (.arrival p bytes) s = .next (State.arrived p bytes (some x) .dropBlocked none (s.endReception p)))
      ∧ ((s.addressed = false ∨ x.src ≠ s.station) → (s.port p).admin = .enabled → x.hop = 0 →
        exec (.arrival p bytes) s = .next (State.arrived p bytes (some x) .dropHop none (s.endReception p))))

/-- A request at the local stage: a cached answer is sent again, a duplicate in flight is refused, a request joins the tail
of a queue with room, and a full queue drops it, with MGMT/REQUEST_DROPPED but for a broadcast DISCOVER. The arrival of
an addressed request: the verdict of its admission is counted and its notice offered; a request of REPORT_ADDR ends a
stall, and an IDLE agent takes, as events of their own (their order: log 3, log 13). -/
def Obligations.ArrivalOfRequestIsAdmitted : Prop :=
  (∀ (r : Request) (report : Bool) (s : State),
      (∀ e, cacheHit r s.agent.cache = some e →
        let f := Frame.build .mrs r.requester s.station false 0 r.tag s.params.genHop e.payload
        e.requester = r.requester ∧ e.tag = r.tag ∧ e.code = r.code
        ∧ s.admission r report = (.local, { s.setAgent { s.agent with cache := e :: s.agent.cache.erase e } with
            raised := s.raised ++ [.offer r.ingress ⟨f, .mrs, false⟩,
              .notice ⟨s.time, .gen, none, .generated, f.header, e.payload.length, e.payload⟩] }))
      ∧ (cacheHit r s.agent.cache = none →
        (s.inFlight r = true → s.admission r report = (.dropMgmt, s))
        ∧ (s.inFlight r = false → s.agent.queue.length < 4 →
          s.admission r report = (.local, s.setAgent { s.agent with queue := s.agent.queue ++ [r] }))
        ∧ (s.inFlight r = false → 4 ≤ s.agent.queue.length →
          s.admission r report
            = (.dropMgmt, if report then s.raiseEvent .mgmtRequestDropped (r.requester.setWidth 8) else s))))
  ∧ (∀ (p : Port) (bytes : List Byte) (x : Frame) (s : State), s.resetAsserted = false → (s.port p).line = .online →
      Frame.parse bytes = some x → s.addressed = true → x.dst = s.station → x.kind = .mgt →
      portIn s.params.mgmtPorts p = true → ∀ code rest, x.payload = code :: rest →
        let a := (s.endReception p).admission ⟨x.src, x.seq, p, code, rest⟩ true
        let c := State.concluded p bytes (some x) a.1 none a.2
        exec (.arrival p bytes) s = .next ({ c with
          raised := c.raised
            ++ (if s.reporter.state = .stalled ∧ s.params.reportAddr = some x.src then [.stallExit x.src] else [])
            ++ (if s.agent.service = .idle ∧ a.2.agent.queue ≠ [] then [.take] else []) } : State).settle)

/-- A broadcast DISCOVER is offered to the agent without any MGMT/REQUEST_DROPPED, its verdict is that of the screening and
route stages, and it ends a stall and is taken as an addressed request is (order: log 3, log 13). -/
def Obligations.BroadcastDiscover : Prop :=
  ∀ (p : Port) (bytes : List Byte) (x : Frame) (s : State), s.resetAsserted = false → (s.port p).line = .online →
    Frame.parse bytes = some x → s.addressed = true → x.dst = 127 → x.kind = .mgt →
    portIn s.params.mgmtPorts p = true → x.payload.head? = some 0x01 →
    let t := ((s.endReception p).admission ⟨x.src, x.seq, p, 0x01, x.payload.tail⟩ false).2
    let ended := fun (v : Verdict) (u : State) =>
      let c := State.concluded p bytes (some x) v none u
      ({ c with
        raised := c.raised
          ++ (if s.reporter.state = .stalled ∧ s.params.reportAddr = some x.src then [.stallExit x.src] else [])
          ++ (if s.agent.service = .idle ∧ t.agent.queue ≠ [] then [.take] else []) } : State).settle
    (x.src = s.station → exec (.arrival p bytes) s = .next (ended .dropLoop (t.raiseEvent .portLoop (portByte p))))
    ∧ (x.src ≠ s.station → (s.port p).admin = .blocked → exec (.arrival p bytes) s = .next (ended .dropBlocked t))
    ∧ (x.src ≠ s.station → (s.port p).admin = .enabled → x.hop = 0 →
      exec (.arrival p bytes) s = .next (ended .dropHop t))
    ∧ (x.src ≠ s.station → (s.port p).admin = .enabled → x.hop ≠ 0 →
      exec (.arrival p bytes) s = .next (ended .forwarded (t.forwardTo (otherPorts p) x)))

/-- The route stage: a broadcast is flooded; any other frame goes to the port its route map entry yields, DEFAULT by
the trunk rule; DROP or the ingress port give DROP_NOROUTE. A forwarded copy has one hop less and a fresh FCS, and
is offered to each port of the set, each offer an event of its own (order: log 3). -/
def Obligations.RouteStageForwards : Prop :=
  (∀ (p : Port) (bytes : List Byte) (x : Frame) (s : State), s.resetAsserted = false → (s.port p).line = .online →
      Frame.parse bytes = some x → s.toBeRouted p x →
      (x.dst = 127 →
        exec (.arrival p bytes) s
          = .next (State.arrived p bytes (some x) .forwarded none ((s.endReception p).forwardTo (otherPorts p) x)))
      ∧ (∀ h : x.dst.toNat < 127,
        let target := s.routes[x.dst.toNat]
        let yields : Option Port := match target with
          | .default => some (if p = .u then .d else .u)
          | .u => some .u
          | .d => some .d
          | .b => some .b
          | .drop => none
        (yields = none ∨ yields = some p →
          exec (.arrival p bytes) s = .next (State.arrived p bytes (some x) .dropNoroute none (s.endReception p)))
        ∧ (∀ q, yields = some q → q ≠ p →
          exec (.arrival p bytes) s
            = .next (State.arrived p bytes (some x) .forwarded none ((s.endReception p).forwardTo (onlyPort q) x)))))
  ∧ (∀ (set : BitVec 3) (x : Frame) (e : QueueEntry) (s : State),
      x.forwarded = { x with hop := x.hop - 1, fcs := crc16 (({ x with hop := x.hop - 1 } : Frame).header ++ x.payload) }
      ∧ s.forwardTo set x = s.offerAll set ⟨x.forwarded, .forward, false⟩
      ∧ s.offerAll set e = { s with
          raised := s.raised ++ (if portIn set .u then [.offer .u e] else [])
            ++ (if portIn set .d then [.offer .d e] else []) ++ (if portIn set .b then [.offer .b e] else []) })

/-- Flow lookup: a CYC frame of a running entry gets the verdict of supervision, an unmatched one under policy DROP
gets DROP_UNMATCHED, and a SUB frame on its entry's ingress is forwarded to the egress set and counted, nothing
else. Supervision of a matched frame at its entry: the entry is written, the attention events are raised in their
order with the quiet setting, and a forwarded frame is offered to the egress set, before or after those events (log 3);
the gate is that of the debounced input. -/
def Obligations.FlowLookupAndSupervision : Prop :=
  (∀ (p : Port) (bytes : List Byte) (x : Frame) (s : State), s.resetAsserted = false → (s.port p).line = .online →
      Frame.parse bytes = some x → s.passesScreen p x →
      (∀ i f, x.kind = .cyc → s.lookup x = some (i, f) →
        exec (.arrival p bytes) s
          = .next (State.arrived p bytes (some x) ((s.endReception p).supervise i f p x).1 (some i)
              ((s.endReception p).supervise i f p x).2))
      ∧ (x.kind = .cyc → s.unmatched x → s.params.unmatchedPolicy = .drop →
        exec (.arrival p bytes) s = .next (State.arrived p bytes (some x) .dropUnmatched none (s.endReception p)))
      ∧ (∀ i f, x.kind = .sub → s.lookup x = some (i, f) → f.defn.ingress = p →
        exec (.arrival p bytes) s
          = .next (State.arrived p bytes (some x) .forwarded (some i)
              (((s.endReception p).setFlow i
                (some { f with counters := { f.counters with subSeen := f.counters.subSeen + 1 } })).forwardTo
                  f.defn.egress x))))
  ∧ (∀ (i : Fin 64) (f : Flow) (p : Port) (x : Frame) (s : State),
      let gateOpen := match f.defn.gate with
        | none => true
        | some k => decide ((s.input k).debounced = f.defn.gateLevel)
      let r := f.onArrival s.time gateOpen p x
      let t := { s.setFlow i (some r.flow) with
        raised := s.raised ++ r.causes.map (fun c => .attention ⟨c, byte i.val, s.time, some f.defn.quiet, none⟩) }
      s.supervise i f p x = (r.verdict, if r.verdict = .forwarded then t.forwardTo f.defn.egress x else t))

/-! ## Cyclic supervision -/

/-- The sequence step: what the distance d from the last SEQ and the gap allowance A find. A CYC frame that supervision
does not accept: wrong port, length, early under DROP, duplicate, stale. The verdict ends the handling, one counter
(two for an early frame that is then a duplicate or stale) moves, and no runtime field does. -/
def Obligations.SupervisionDropsFrame : Prop :=
  (∀ d a : Nat, d < 256 → a ≤ 127 →
      (d = 0 → seqFinding d a = .duplicate)
      ∧ (d = 1 → seqFinding d a = .passes 0)
      ∧ (2 ≤ d → d ≤ a + 1 → d ≤ 127 → seqFinding d a = .passes (d - 1))
      ∧ (a + 2 ≤ d → d ≤ 127 → seqFinding d a = .breaks)
      ∧ (128 ≤ d → seqFinding d a = .stale))
  ∧ (∀ (t : Time) (gateOpen : Bool) (p : Port) (x : Frame) (f : Flow),
      let c := f.counters
      let fits := p = f.defn.ingress ∧ f.defn.lenMin ≤ x.payload.length ∧ x.payload.length ≤ f.defn.lenMax
      let early := (f.state = .locked ∨ f.state = .overdue ∨ f.state = .recovering)
        ∧ ∃ e, f.schedule = some e ∧ before t (e.expected - BitVec.ofNat 32 (f.defn.early * 10)) = true
      (p ≠ f.defn.ingress → f.onArrival t gateOpen p x
        = ⟨{ f with counters := { c with wrongPort := c.wrongPort + 1 } }, [.flowWrongPort], .dropWrongPort⟩)
      ∧ (p = f.defn.ingress → (x.payload.length < f.defn.lenMin ∨ f.defn.lenMax < x.payload.length) →
        f.onArrival t gateOpen p x
          = ⟨{ f with counters := { c with lengthFaults := c.lengthFaults + 1 } }, [.flowLength], .dropLength⟩)
      ∧ (fits → early → f.defn.earlyAction = .drop →
        f.onArrival t gateOpen p x
          = ⟨{ f with counters := { c with early := c.early + 1 } }, [.flowEarly], .dropEarly⟩)
      ∧ (∀ last, fits → f.defn.seqPolicy = .check → f.lastSeq = some last →
        (¬early → x.seq = last → f.onArrival t gateOpen p x
          = ⟨{ f with counters := { c with duplicate := c.duplicate + 1 } }, [], .dropDup⟩)
        ∧ (early → f.defn.earlyAction = .pass → x.seq = last → f.onArrival t gateOpen p x
          = ⟨{ f with counters := { c with early := c.early + 1, duplicate := c.duplicate + 1 } }, [.flowEarly], .dropDup⟩)
        ∧ (¬early → 128 ≤ (x.seq - last).toNat → f.onArrival t gateOpen p x
          = ⟨{ f with counters := { c with stale := c.stale + 1 } }, [], .dropStale⟩)
        ∧ (early → f.defn.earlyAction = .pass → 128 ≤ (x.seq - last).toNat → f.onArrival t gateOpen p x
          = ⟨{ f with counters := { c with early := c.early + 1, stale := c.stale + 1 } }, [.flowEarly], .dropStale⟩)))

/-- A CYC frame that supervision accepts: every runtime field, state and counter afterwards, the attention events in their
order, and FORWARDED or DROP_GATED by the gate. -/
def Obligations.SupervisionAcceptsFrame : Prop :=
  ∀ (t : Time) (gateOpen : Bool) (p : Port) (x : Frame) (f : Flow), f.ok → f.state ≠ .disabled →
    p = f.defn.ingress → f.defn.lenMin ≤ x.payload.length → x.payload.length ≤ f.defn.lenMax →
    (f.isEarly t = true → f.defn.earlyAction = .pass) →
    ∀ skipped breaks : Nat,
    (f.defn.seqPolicy = .unchecked ∨ f.lastSeq = none → skipped = 0 ∧ breaks = 0) →
    (∀ last, f.defn.seqPolicy = .check → f.lastSeq = some last →
      let d := (x.seq - last).toNat
      1 ≤ d ∧ d ≤ 127 ∧ skipped = (if d ≤ f.defn.gap + 1 then d - 1 else 0)
      ∧ breaks = (if d ≤ f.defn.gap + 1 then 0 else 1)) →
    let r := f.onArrival t gateOpen p x
    let c := f.counters
    let early : Nat := if f.isEarly t then 1 else 0
    let probation := f.state = .lost ∨ f.state = .recovering
    let good := if f.state = .recovering then f.good + 1 else 1
    let recovered := probation ∧ f.defn.recovery ≤ good
    r.verdict = (if gateOpen then .forwarded else .dropGated)
    ∧ r.causes = (if early = 1 then [.flowEarly] else []) ++ (if breaks = 1 then [.flowSeqBreak] else [])
        ++ (if recovered then [.flowRecovered] else [])
    ∧ r.flow.defn = f.defn ∧ r.flow.holdSlot = f.holdSlot
    ∧ r.flow.lastSeq = some x.seq
    ∧ r.flow.holdContent = (if f.holdSlot.isSome then some x.payload else none)
    ∧ r.flow.schedule = some ⟨t + BitVec.ofNat 32 (f.defn.period * 10),
        t + BitVec.ofNat 32 (f.defn.period * 10) + BitVec.ofNat 32 (f.defn.late * 10)⟩
    ∧ r.flow.misses = 0 ∧ r.flow.subs = 0
    ∧ r.flow.state = (if probation ∧ ¬recovered then .recovering else .locked)
    ∧ r.flow.good = (if probation ∧ ¬recovered then good else 0)
    ∧ r.flow.counters = { c with
        accepted := c.accepted + 1
        early := c.early + BitVec.ofNat 32 early
        late := c.late + (if f.state = .overdue then 1 else 0)
        skipped := c.skipped + BitVec.ofNat 32 skipped
        breaks := c.breaks + BitVec.ofNat 32 breaks
        forwarded := c.forwarded + (if gateOpen then 1 else 0)
        gated := c.gated + (if gateOpen then 0 else 1) }

/-- DEADLINE_EXPIRY in LOCKED or OVERDUE below the loss threshold: the miss, OVERDUE, E and D one period on from the old E,
FLOW/OVERDUE on entry, and a substitute where hold content, limit and gate allow one, offered before or after the event
is taken (log 3). TIME moved on to D is the model's choice, log 2, and so is an entry without last SEQ, log 15. -/
def Obligations.ExpiryLeavesOverdue : Prop :=
  ∀ (i : Fin 64) (f : Flow) (x : Schedule) (s : State), s.resetAsserted = false → s.flow i = some f →
    (f.state = .locked ∨ f.state = .overdue) → f.schedule = some x → f.misses + 1 < f.defn.lossThreshold →
    let e := x.expected + BitVec.ofNat 32 (f.defn.period * 10)
    let g : Flow := { f with
      state := .overdue
      misses := f.misses + 1
      schedule := some ⟨e, e + BitVec.ofNat 32 (f.defn.late * 10)⟩
      counters := { f.counters with missed := f.counters.missed + 1 } }
    let u := s.elapseTo x.deadline
    let overdue : List Raised := if f.state = .locked
      then [.attention ⟨.flowOverdue, byte i.val, u.time, some f.defn.quiet, none⟩] else []
    (∀ content, f.defn.missPolicy ≠ .report → f.subs < f.defn.subLimit → s.gateOpen f.defn = true →
      f.holdContent = some content →
      let h : Flow := { g with
        subs := f.subs + 1
        counters := { g.counters with substituted := f.counters.substituted + 1 } }
      let y := Frame.build .sub f.defn.dst f.defn.src false f.defn.ch (f.lastSeq.getD 0 + byte (f.misses + 1))
        s.params.genHop content
      exec (.deadlineExpiry i) s
        = .next ((({ u.setFlow i (some h) with raised := s.raised ++ overdue }).offerAll f.defn.egress
            ⟨y, .sub, false⟩).raise (.notice ⟨u.time, .gen, some i, .generated, y.header, content.length, content⟩)).settle)
    ∧ (f.defn.missPolicy = .report ∨ f.defn.subLimit ≤ f.subs ∨ s.gateOpen f.defn = false ∨ f.holdContent = none →
      exec (.deadlineExpiry i) s = .next { u.setFlow i (some g) with raised := s.raised ++ overdue }.settle)

/-- DEADLINE_EXPIRY that reaches the loss threshold, or in RECOVERING: LOST with FLOW/LOST, E and D absent, and a cut frame
exactly under HOLD_THEN_CUT, whatever the gate, offered before or after the event is taken (log 3). In the other states
no expiry is pending (log 4). TIME moved on to D is the model's choice, log 2. -/
def Obligations.ExpiryLosesFlow : Prop :=
  ∀ (i : Fin 64) (f : Flow) (s : State), s.resetAsserted = false → s.flow i = some f →
    (∀ x, f.ok → f.schedule = some x →
      (f.state = .recovering ∨ f.defn.lossThreshold ≤ f.misses + 1) →
      let u := s.elapseTo x.deadline
      let g : Flow := { f with
        state := .lost
        schedule := none
        misses := f.defn.lossThreshold
        good := 0
        counters := { f.counters with missed := f.counters.missed + 1 } }
      let lost := Raised.attention ⟨.flowLost, byte i.val, u.time, some f.defn.quiet, none⟩
      (f.defn.missPolicy ≠ .holdThenCut →
        exec (.deadlineExpiry i) s = .next ((u.setFlow i (some g)).raise lost).settle)
      ∧ (f.defn.missPolicy = .holdThenCut →
        let h : Flow := { g with counters := { g.counters with cuts := f.counters.cuts + 1 } }
        let y := Frame.build .sub f.defn.dst f.defn.src true f.defn.ch
          (f.lastSeq.getD 0 + byte f.defn.lossThreshold) s.params.genHop []
        exec (.deadlineExpiry i) s
          = .next ((((u.setFlow i (some h)).raise lost).offerAll f.defn.egress ⟨y, .sub, false⟩).raise
              (.notice ⟨u.time, .gen, some i, .generated, y.header, 0, []⟩)).settle))
    ∧ (f.ok → f.schedule = none → exec (.deadlineExpiry i) s = .next s.settle)

/-- The fields of a substitute frame. -/
def Obligations.SubstituteFrameFields : Prop :=
  ∀ (f : Flow) (last : Byte) (hop : BitVec 4) (content : List Byte), f.lastSeq = some last →
    let y := f.substitute hop content
    y.dst = f.defn.dst ∧ y.src = f.defn.src ∧ y.ch = f.defn.ch ∧ y.cut = false ∧ y.kind = .sub
    ∧ y.seq.toNat = (last.toNat + f.misses) % 256 ∧ y.hop = hop ∧ y.payload = content
    ∧ y.fcs = crc16 (y.header ++ content)
    ∧ y.spareSrc = false ∧ y.spareKind = false ∧ y.spareHop = 0

/-! ## The other timers -/

/-- RESTART and CLEAR_TABLE for the holder: BUSY during a sweep; else RESTART only starts the lease at its take, and
CLEAR_TABLE starts the sweep at this TIME and the lease. SWEEP_VISIT: the entry visited becomes invalid and is
counted if it was valid; at entry 63 the sweep ends and the CLEAR_TABLE response is built. With no sweep nothing
happens (log 4). TIME moved on to the visit is the model's choice, log 2. -/
def Obligations.RestartClearTableAndSweep : Prop :=
  (∀ (q : Req) (s : State), s.heldBy q → q.operands = [] →
      (s.ready 0x06 q → s.sweep = none → exec (.restart q) s = .next (s.leased.served 0x06 q .restarting))
      ∧ (s.ready 0x06 q → s.sweep ≠ none → exec (.restart q) s = .next (s.refusing 0x06 q .busy))
      ∧ (s.ready 0x26 q → s.sweep = none →
        exec (.clearTable q) s
          = .next (((s.setSweep (some ⟨s.time, 0, 0, requestOf 0x26 q⟩)).leased).served 0x26 q .sweeping))
      ∧ (s.ready 0x26 q → s.sweep ≠ none → exec (.clearTable q) s = .next (s.refusing 0x26 q .busy)))
  ∧ (∀ s : State, s.resetAsserted = false →
      (s.sweep = none → exec .sweepVisit s = .next s.settle)
      ∧ (∀ w, s.sweep = some w →
        let u := (s.elapseTo (w.start + BitVec.ofNat 32 (2 * (w.next.val + 1)))).setFlow w.next none
        let n := w.removed + (if (s.flow w.next).isSome then 1 else 0)
        (∀ k : Fin 64, k.val = w.next.val + 1 →
          exec .sweepVisit s = .next (u.setSweep (some ⟨w.start, k, n, w.request⟩)).settle)
        ∧ (w.next.val = 63 →
          exec .sweepVisit s
            = .next (((u.setSweep none).setAgent { s.agent with sweepPending := none }).respond w.request .ok [byte n]
                false).settle)))

/-- SENSE_SAMPLE: the synchronised level is the level found; the qualification is started, abandoned, continued or
completed; a change of the debounced state raises the event the edge setting selects, but for the first qualification
after a cold reset. TIME moved on to the sample, and the scheduled TIME used by a sample that is late, are the model's
choices, log 2 and log 16. -/
def Obligations.SenseSampleQualifies : Prop :=
  ∀ (i : Fin 4) (level : Level) (s : State), s.resetAsserted = false →
    let x := s.input i
    let u := s.elapseTo x.nextSample
    let raw := rawState x.polarity level
    let y : Sense := { x with
      terminal := level, level := level, nextSample := x.nextSample + 10, settled := true }
    let changed := (u.setInput i { y with debounced := raw, qualification := none })
    let event : Option Cause := if x.settled = false then none else match raw with
      | .asserted => if x.edges = .assert ∨ x.edges = .both then some .senseAsserted else none
      | .deasserted => if x.edges = .deassert ∨ x.edges = .both then some .senseDeasserted else none
    (x.qualification = none → raw = x.debounced → exec (.senseSample i level) s = .next (u.setInput i y).settle)
    ∧ (x.qualification = none → raw ≠ x.debounced → x.debounce ≠ 0 →
      exec (.senseSample i level) s
        = .next (u.setInput i { y with
            qualification := some ⟨raw, x.nextSample + BitVec.ofNat 32 (x.debounce.toNat * 10)⟩ }).settle)
    ∧ (∀ q, x.qualification = some q → raw = x.debounced →
      exec (.senseSample i level) s = .next (u.setInput i { y with qualification := none }).settle)
    ∧ (∀ q, x.qualification = some q → raw ≠ x.debounced → before x.nextSample q.completes = true →
      exec (.senseSample i level) s = .next (u.setInput i y).settle)
    ∧ (raw ≠ x.debounced →
      ((x.qualification = none ∧ x.debounce = 0)
        ∨ ∃ q, x.qualification = some q ∧ before x.nextSample q.completes = false) →
      (event = none → exec (.senseSample i level) s = .next changed.settle)
      ∧ (∀ c, event = some c →
        exec (.senseSample i level) s = .next (changed.raiseEvent c (byte i.val)).settle))

/-- LEASE_EXPIRY: the claim passes to no holder and MGMT/CLAIM_EXPIRED is raised; nothing without a running lease (log
4). ACK_TIMER_EXPIRY in WAIT_ACK: with retries left the unacknowledged items are sent again under the same tag,
else the reporter is STALLED with its report kept; in IDLE and STALLED no expiry is pending (log 4). TIME moved on to
either expiry is the model's choice, log 2. -/
def Obligations.LeaseAndAckTimerExpire : Prop :=
  (∀ s : State, s.resetAsserted = false →
      (∀ e a, s.agent.lease = some e → s.agent.holder = some a →
        exec .leaseExpiry s
          = .next (((s.elapseTo e).setAgent { s.agent with holder := none, lease := none }).raiseEvent .mgmtClaimExpired
              (a.setWidth 8)).settle)
      ∧ ((s.agent.lease = none ∨ s.agent.holder = none) → exec .leaseExpiry s = .next s.settle))
  ∧ (∀ s : State, s.resetAsserted = false →
      (∀ e dest, s.reporter.state = .waitAck → s.reporter.timer = some e → s.params.reportAddr = some dest →
        s.reporter.retries < s.params.reportRetries →
        let u := s.elapseTo e
        exec .ackTimerExpiry s
          = .next ((u.setReporter { s.reporter with
              retries := s.reporter.retries + 1
              timer := some (u.time + BitVec.ofNat 32 (s.params.reportInterval * 10000)) }).sendReport dest
                ((s.reporter.outstanding.filter (fun i => !i.acked)).map (·.id))).settle)
      ∧ (∀ e dest, s.reporter.state = .waitAck → s.reporter.timer = some e → s.params.reportAddr = some dest →
        s.params.reportRetries ≤ s.reporter.retries →
        exec .ackTimerExpiry s
          = .next ((s.elapseTo e).setReporter { s.reporter with state := .stalled, timer := none }).settle)
      ∧ ((s.reporter.state ≠ .waitAck ∨ s.reporter.timer = none) → exec .ackTimerExpiry s = .next s.settle))

/-- REQUEST_COMPLETION: the response is built, cached and offered, and the agent takes the request at the head of its
queue, if one waits, before or after the notice (log 3, log 13); CLEAR_TABLE becomes sweep-pending without a response,
and the agent takes likewise; RESTART enters RESTART_WAIT and offers its response with the restart mark. With no request
in service nothing happens (log 4). TIME moved on to the completion is the model's choice, log 2. The response: code,
status and results in an MRS frame, written into the cache in place of the requester's own entry and of the least
recently used, offered to the URGENT queue of the ingress port, with its notice. -/
def Obligations.RequestCompletesWithResponse : Prop :=
  (∀ s : State, s.resetAsserted = false →
      (∀ r ends st res, s.agent.service = .serving r ends (.answer st res) →
        let t := (((s.elapseTo ends).setAgent { s.agent with service := .idle }).respond r st res false)
        (s.agent.queue = [] → exec .requestCompletion s = .next t.settle)
        ∧ (s.agent.queue ≠ [] → exec .requestCompletion s = .next (t.raise .take).settle))
      ∧ (∀ r ends w, s.agent.service = .serving r ends .sweeping → s.sweep = some w →
        let t := (s.elapseTo ends).setAgent { s.agent with service := .idle, sweepPending := some r }
        (s.agent.queue = [] → exec .requestCompletion s = .next t.settle)
        ∧ (∀ head rest, s.agent.queue = head :: rest → s.raised = [] →
          let x := run head (t.setAgent { t.agent with queue := rest })
          exec .requestCompletion s
            = .next (x.2.setAgent { x.2.agent with service := .serving head (x.2.time + 20) x.1 }).settle))
      ∧ (∀ r ends, s.agent.service = .serving r ends .restarting →
        exec .requestCompletion s
          = .next ((((s.elapseTo ends).setAgent { s.agent with service := .restartWait }).respond r .ok [] true)).settle)
      ∧ ((s.agent.service = .idle ∨ s.agent.service = .restartWait) → exec .requestCompletion s = .next s.settle))
  ∧ (∀ (r : Request) (st : Status) (res : List Byte) (mark : Bool) (s : State),
      let payload := r.code :: st.code :: res
      let f := Frame.build .mrs r.requester s.station false 0 r.tag s.params.genHop payload
      let cache := ⟨r.requester, r.tag, r.code, payload⟩
        :: (s.agent.cache.filter (fun e => decide (e.requester ≠ r.requester))).take 3
      s.respond r st res mark
        = ((s.setAgent { s.agent with cache := cache }).enqueue r.ingress ⟨f, .mrs, mark⟩).raise
            (.notice ⟨s.time, .gen, none, .generated, f.header, payload.length, payload⟩))

/-! ## Attention -/

/-- The list takes an event: a masked or quiet one leaves no trace; one that matches a record is added to it; one that
matches none creates a record in its place, under the first id from the counter on that is not in use, or raises the lost
count when the list is full. -/
def Obligations.AttentionEventIsTaken : Prop :=
  ∀ (e : AttentionEvent) (a : Attention), a.ok →
    let screened := (a.setting e.cause).masked = true ∨ (e.cause.isFlow = true ∧ e.quiet = some true)
    (screened → a.take e = (.masked, a))
    ∧ (¬screened → ∀ r ∈ a.records, r.cause = e.cause → r.object = e.object →
      (a.take e).1 = .added r.id
      ∧ (a.take e).2 = { a with records := a.records.map (fun x => if x = r then { r with
          count := min 255 (r.count + 1), last := e.time, state := .unreported } else x) })
    ∧ (¬screened → (∀ r ∈ a.records, ¬(r.cause = e.cause ∧ r.object = e.object)) → a.records.length < 32 →
      ∃ before after id,
        a.records = before ++ after
        ∧ (∀ x ∈ before, x.rank ≤ (e.given.getD (a.setting e.cause).rank))
        ∧ (∀ x ∈ after, e.given.getD (a.setting e.cause).rank < x.rank)
        ∧ (∀ x ∈ a.records, x.id ≠ id)
        ∧ (∃ k, id = (a.nextId - 1 + k) % 65535 + 1
          ∧ ∀ j, j < k → ∃ x ∈ a.records, x.id = (a.nextId - 1 + j) % 65535 + 1)
        ∧ a.take e = (.created id, { a with
            records := before ++ ⟨id, e.cause, e.object, e.given.getD (a.setting e.cause).rank, 1, none, e.time, e.time,
              .unreported⟩ :: after
            nextId := if id = 65535 then 1 else id + 1 }))
    ∧ (¬screened → (∀ r ∈ a.records, ¬(r.cause = e.cause ∧ r.object = e.object)) → a.records.length = 32 →
      a.take e = (.lost, { a with lost := min 65535 (a.lost + 1) }))

/-- Beginning a report: the first four UNREPORTED records in list order go out under the next tag, are marked REPORTED with
the count sent, and the acknowledgement timer starts; it begins exactly when the reporter is IDLE, REPORT_ADDR is an
address, the module is addressed and a record is UNREPORTED. -/
def Obligations.ReportBegins : Prop :=
  ∀ s : State,
    (∀ dest, s.reporter.state = .idle → s.params.reportAddr = some dest → s.addressed = true →
      (∃ r ∈ s.attention.records, r.state = .unreported) →
      let ids := ((s.attention.records.filter (fun r => decide (r.state = .unreported))).take 4).map (·.id)
      s.pollReporter
        = (s.setReporter ⟨.waitAck, s.reporter.tag + 1, ids.map (fun i => ⟨i, false⟩), 0,
            some (s.time + BitVec.ofNat 32 (s.params.reportInterval * 10000))⟩).sendReport dest ids)
    ∧ ((s.reporter.state ≠ .idle ∨ s.params.reportAddr = none ∨ s.addressed = false
        ∨ ∀ r ∈ s.attention.records, r.state ≠ .unreported) → s.pollReporter = s)
    ∧ (∀ dest ids, let records := s.attention.records.filter (fun r => ids.contains r.id)
      let f := Frame.build .atn dest s.station false 0 s.reporter.tag s.params.genHop
        (be16 s.attention.lost ++ (records.map (fun r =>
          be16 r.id ++ [r.cause.code, r.object, byte r.rank, byte r.count] ++ be32 r.last)).flatten)
      let t := s.setAttention { s.attention with records := s.attention.records.map (fun r =>
        if ids.contains r.id then { r with state := .reported, reportedCount := some r.count } else r) }
      let u := match s.route dest with
        | .default => t.enqueue .u ⟨f, .atn, false⟩
        | .u => t.enqueue .u ⟨f, .atn, false⟩
        | .d => t.enqueue .d ⟨f, .atn, false⟩
        | .b => t.enqueue .b ⟨f, .atn, false⟩
        | .drop => t
      s.sendReport dest ids
        = u.raise (.notice ⟨s.time, .gen, none, .generated, f.header, f.payload.length, f.payload⟩))

/-- A management command from REPORT_ADDR ends a stall, whatever its fate. Leaving STALLED and abandoning a report: its
records become UNREPORTED with their reported counts kept, nothing is outstanding, and a new report begins if one
may; a write of a reporting parameter does this as its state says. -/
def Obligations.StallEndsAndReportsAreAbandoned : Prop :=
  (∀ (c : Instr) (code : Byte) (q : Req) (s : State), asRequest c = some (code, q) → s.listening →
      s.reporter.state = .stalled → s.params.reportAddr = some q.requester →
      ∃ t, exec c s = .next t ∧ t.reporter.state ≠ .stalled)
  ∧ (∀ s : State,
      let ids := s.reporter.outstanding.map (·.id)
      let freed := (s.setAttention { s.attention with records := s.attention.records.map (fun r =>
        if ids.contains r.id then { r with state := .unreported } else r) }).setReporter
          ⟨.idle, s.reporter.tag, [], 0, none⟩
      (s.reporter.state = .stalled →
        s.paramWritten .reportAddr = freed.pollReporter ∧ s.paramWritten .reportInterval = freed.pollReporter
        ∧ s.paramWritten .reportRetries = freed.pollReporter
        ∧ (∀ a, s.params.reportAddr = some a → s.stallExit a = freed.pollReporter))
      ∧ (s.reporter.state = .waitAck →
        s.paramWritten .reportAddr = freed.pollReporter ∧ s.paramWritten .reportInterval = s
        ∧ s.paramWritten .reportRetries = s ∧ (∀ a, s.stallExit a = s))
      ∧ (s.reporter.state = .idle →
        s.paramWritten .reportAddr = s.pollReporter ∧ s.paramWritten .reportInterval = s
        ∧ s.paramWritten .reportRetries = s ∧ (∀ a, s.stallExit a = s))
      ∧ (∀ a, s.params.reportAddr ≠ some a → s.stallExit a = s))

/-! ## The capture unit -/

/-- A notice at one ring: accepted exactly when the ring records and its filters hold the verdict, the ingress and the
flow; then the record goes into slot base + (n mod size), the numbers move on, and a POSTFILL that ends or a STOP
ring that fills freezes the ring with RING/FROZEN. Every other slot reads as before. An announcement at one ring: a
RUNNING ring whose trigger matches enters POSTFILL with its post count, or FROZEN with RING/FROZEN where the count
is 0; every other ring is left alone. -/
def Obligations.RingRecordsAndTriggers : Prop :=
  (∀ (n : Notice) (k : Fin 8) (r : Ring) (s : State), s.ring k = some r → r.ok →
      let accepts := (r.state = .running ∨ r.state = .postfill)
        ∧ r.defn.verdictFilter.getLsbD n.verdict.code = true ∧ r.defn.portFilter.getLsbD n.ingress.code = true
        ∧ (r.defn.flowFilter = none ∨ r.defn.flowFilter = n.flow)
      let freezes := (r.state = .postfill ∧ r.remaining = some 1)
        ∨ (r.defn.mode = .stop ∧ r.next.toNat = r.defn.size - 1)
      let slot := r.defn.base + r.next.toNat % r.defn.size
      (¬accepts → s.record n k = s)
      ∧ (accepts → ∃ m, (∀ a, CaptureMemory.read a m = if a = slot
            then some { n with payload := n.payload.take (min r.defn.captureLength n.storedLength) }
            else CaptureMemory.read a s.capture.memory)
        ∧ (freezes → s.record n k
            = ((s.setMemory m).setRing k (some ⟨r.defn, .frozen, r.next + 1, min (r.held + 1) r.defn.size, none⟩)).raiseEvent
                .ringFrozen (byte k.val))
        ∧ (¬freezes → s.record n k
            = (s.setMemory m).setRing k (some ⟨r.defn, r.state, r.next + 1, min (r.held + 1) r.defn.size,
                r.remaining.map (· - 1)⟩))))
  ∧ (∀ (c : Cause) (object : Byte) (k : Fin 8) (r : Ring) (s : State), s.ring k = some r →
      let hits := r.state = .running ∧ ∃ t, r.defn.trigger = some t ∧ t.cause = c
        ∧ (t.object = none ∨ t.object = some object)
      (¬hits → s.triggerBy c object k = s)
      ∧ (hits → r.defn.postCount ≠ 0 →
        s.triggerBy c object k
          = s.setRing k (some { r with state := .postfill, remaining := some r.defn.postCount }))
      ∧ (hits → r.defn.postCount = 0 →
        s.triggerBy c object k
          = (s.setRing k (some { r with state := .frozen, remaining := none })).raiseEvent .ringFrozen (byte k.val)))

/-! ## Management commands in general -/

/-- A management command that is not taken at once: no effect in unaddressed operation (what the row stands for there:
log 5); with a busy agent, and for a retry or a duplicate in flight at an IDLE one, it is admitted and nothing else
happens. A command of REPORT_ADDR that finds the reporter STALLED: the stall exit, and the take of an IDLE agent, are
events of their own (order: log 3, log 13). -/
def Obligations.RequestIsNotTakenAtOnce : Prop :=
  ∀ (c : Instr) (code : Byte) (q : Req) (s : State), asRequest c = some (code, q) → s.resetAsserted = false →
    (s.addressed = false → exec c s = .next s.settle)
    ∧ (s.addressed = true →
      let r := requestOf code q
      let t := (s.admission r true).2
      (s.keepsStall q →
        (s.agent.service ≠ .idle
          ∨ (s.agent.queue = [] ∧ (cacheHit r s.agent.cache ≠ none ∨ s.inFlight r = true))) →
        exec c s = .next t.settle)
      ∧ (s.reporter.state = .stalled → s.params.reportAddr = some q.requester →
        exec c s = .next ({ t with
          raised := t.raised ++ [.stallExit q.requester]
            ++ (if s.agent.service = .idle ∧ t.agent.queue ≠ [] then [.take] else []) } : State).settle))

/-- The check order up to the length, and the commands that name no command: UNKNOWN_COMMAND, then NOT_OWNER for every
command that needs the claim, then BAD_LENGTH; the module is otherwise unchanged. A command refused with a status
other than OK changes nothing at its take. -/
def Obligations.RefusedCommands : Prop :=
  (∀ (q : Req) (s : State),
      (∀ code, Command.ofCode code = none → s.ready code q →
        exec (.unknownCommand code q) s = .next (s.refusing code q .unknownCommand))
      ∧ (∀ (c : Instr) (code : Byte), asRequest c = some (code, q) → s.ready code q →
        (code ∈ ([0x05, 0x06, 0x10, 0x12, 0x20, 0x21, 0x22, 0x23, 0x24, 0x26, 0x32, 0x33, 0x34, 0x40, 0x41, 0x42, 0x43, 0x45,
            0x50] : List Byte) → ¬s.heldBy q → exec c s = .next (s.refusing code q .notOwner))
        ∧ (code ∈ ([0x11, 0x25] : List Byte) → q.operands[2]? = some 1 → ¬s.heldBy q →
          exec c s = .next (s.refusing code q .notOwner))
        ∧ (∀ n : Nat, (code, n) ∈ ([(0x01, 0), (0x02, 0), (0x03, 0), (0x04, 1), (0x05, 5), (0x06, 0), (0x10, 2), (0x11, 3),
            (0x12, 3), (0x13, 2), (0x20, 24), (0x21, 7), (0x22, 1), (0x23, 1), (0x24, 1), (0x25, 3), (0x26, 0), (0x30, 2),
            (0x32, 0), (0x33, 3), (0x34, 2), (0x40, 16), (0x41, 1), (0x42, 1), (0x43, 1), (0x44, 5), (0x45, 1), (0x50, 4),
            (0x51, 0)] : List (Byte × Nat)) →
          (s.heldBy q ∨ code ∈ ([0x01, 0x02, 0x03, 0x04, 0x13, 0x30, 0x44, 0x51] : List Byte)
            ∨ (code ∈ ([0x11, 0x25] : List Byte) ∧ q.operands[2]? ≠ some 1)) →
          q.operands.length ≠ n →
          exec c s = .next (s.refusing code q .badLength))))
  ∧ (∀ (r : Request) (s : State) (st : Status) (res : List Byte), (run r s).1 = .answer st res → st ≠ .ok →
      (run r s).2 = s)

/-! ## The agent's own commands -/

/-- DISCOVER: the sixteen bytes of results; nothing else changes. REVISION is a free value, log 8. -/
def Obligations.DiscoverAnswers : Prop :=
  ∀ (q : Req) (s : State), s.ready 0x01 q → q.operands = [] →
    exec (.discover q) s = .next (s.served 0x01 q (.answer .ok
      ([0x52, 0x03, 0x16, byte revision, s.station.setWidth 8, (s.agent.holder.map (fun a => a.setWidth 8)).getD 0xFF,
        64, 16, 8, 0x04, 0x00, 32] ++ be32 s.time)))
    ∧ 1 ≤ revision ∧ revision ≤ 255

/-- READ_PARAM: BAD_LENGTH, BAD_INDEX, or the number and the parameter's value; nothing else changes. -/
def Obligations.ReadParamAnswers : Prop :=
  ∀ (q : Req) (s : State), s.ready 0x04 q →
    (q.operands.length ≠ 1 → exec (.readParam q) s = .next (s.refusing 0x04 q .badLength))
    ∧ (∀ n : Byte, q.operands = [n] →
      (n ∉ ([1, 2, 3, 4, 5, 6, 7, 8, 16, 17, 18] : List Byte) →
        exec (.readParam q) s = .next (s.refusing 0x04 q .badIndex))
      ∧ (∀ v : BitVec 32,
        ((n = 1 ∧ v = (if s.params.unmatchedPolicy = .forward then 0 else 1))
          ∨ (n = 2 ∧ v = s.params.mgmtPorts.setWidth 32)
          ∨ (n = 3 ∧ ((s.params.reportAddr = none ∧ v = 0xFF) ∨ ∃ a, s.params.reportAddr = some a ∧ v = a.setWidth 32))
          ∨ (n = 4 ∧ v = BitVec.ofNat 32 s.params.reportInterval)
          ∨ (n = 5 ∧ v = BitVec.ofNat 32 s.params.reportRetries)
          ∨ (n = 6 ∧ v = BitVec.ofNat 32 s.params.leaseTime)
          ∨ (n = 7 ∧ v = BitVec.ofNat 32 s.params.alertRank)
          ∨ (n = 8 ∧ v = s.params.genHop.setWidth 32)
          ∨ (n = 16 ∧ v = s.station.setWidth 32)
          ∨ (n = 17 ∧ v = BitVec.ofNat 32 revision)
          ∨ (n = 18 ∧ v = s.clock.us)) →
        exec (.readParam q) s = .next (s.served 0x04 q (.answer .ok (n :: be32 v)))))

/-- WRITE_PARAM for the holder: BAD_INDEX, NOT_ALLOWED, BAD_VALUE outside the range, else the write, its effect on the
reporter, the values before and after, and the lease. -/
def Obligations.WriteParamWrites : Prop :=
  ∀ (q : Req) (s : State) (n a b c d : Byte), s.ready 0x05 q → s.heldBy q → q.operands = [n, a, b, c, d] →
    let v := (word32 a b c d).toNat
    let x := s.params
    (n ∉ ([1, 2, 3, 4, 5, 6, 7, 8, 16, 17, 18] : List Byte) →
      exec (.writeParam q) s = .next (s.refusing 0x05 q .badIndex))
    ∧ (n ∈ ([16, 17, 18] : List Byte) → exec (.writeParam q) s = .next (s.refusing 0x05 q .notAllowed))
    ∧ ((n = 1 ∧ 1 < v) ∨ (n = 2 ∧ (v = 0 ∨ 7 < v))
        ∨ (n = 3 ∧ v ≠ 255 ∧ (126 < v ∨ v = s.station.toNat)) ∨ (n = 4 ∧ (v = 0 ∨ 255 < v)) ∨ (n = 5 ∧ 15 < v)
        ∨ (n = 6 ∧ (v < 10 ∨ 6000 < v)) ∨ (n = 7 ∧ 7 < v) ∨ (n = 8 ∧ (v = 0 ∨ 15 < v)) →
      exec (.writeParam q) s = .next (s.refusing 0x05 q .badValue))
    ∧ (∀ (p : Param) (y : Params), p.number = n →
      ((p = .unmatchedPolicy ∧ v = 0 ∧ y = { x with unmatchedPolicy := .forward })
        ∨ (p = .unmatchedPolicy ∧ v = 1 ∧ y = { x with unmatchedPolicy := .drop })
        ∨ (p = .mgmtPorts ∧ 1 ≤ v ∧ v ≤ 7 ∧ y = { x with mgmtPorts := BitVec.ofNat 3 v })
        ∨ (p = .reportAddr ∧ v = 255 ∧ y = { x with reportAddr := none })
        ∨ (p = .reportAddr ∧ v ≤ 126 ∧ v ≠ s.station.toNat ∧ y = { x with reportAddr := some (BitVec.ofNat 7 v) })
        ∨ (p = .reportInterval ∧ 1 ≤ v ∧ v ≤ 255 ∧ y = { x with reportInterval := v })
        ∨ (p = .reportRetries ∧ v ≤ 15 ∧ y = { x with reportRetries := v })
        ∨ (p = .leaseTime ∧ 10 ≤ v ∧ v ≤ 6000 ∧ y = { x with leaseTime := v })
        ∨ (p = .alertRank ∧ v ≤ 7 ∧ y = { x with alertRank := v })
        ∨ (p = .genHop ∧ 1 ≤ v ∧ v ≤ 15 ∧ y = { x with genHop := BitVec.ofNat 4 v })) →
      let t := s.setAgent { s.agent with params := y }
      exec (.writeParam q) s
        = .next (((t.paramWritten p).leased).served 0x05 q
            (.answer .ok (n :: (be32 (s.paramValue p) ++ be32 (t.paramValue p))))))

/-- CLAIM and RELEASE take no operands: the claim passes only to a station that finds it free or holds it, the holder alone
releases it, and a refusal gives the holder's address. -/
def Obligations.ClaimAndRelease : Prop :=
  ∀ (q : Req) (s : State),
    (q.operands ≠ [] →
      (s.ready 0x02 q → exec (.claim q) s = .next (s.refusing 0x02 q .badLength))
      ∧ (s.ready 0x03 q → exec (.release q) s = .next (s.refusing 0x03 q .badLength)))
    ∧ (q.operands = [] →
    (s.ready 0x02 q → (s.agent.holder = none ∨ s.heldBy q) →
      exec (.claim q) s = .next ((s.setAgent { s.agent with
        holder := some q.requester
        lease := some (s.time + BitVec.ofNat 32 (s.params.leaseTime * 10000)) }).served 0x02 q
          (.answer .ok (q.requester.setWidth 8 :: be16 s.params.leaseTime))))
    ∧ (∀ a, s.ready 0x02 q → s.agent.holder = some a → a ≠ q.requester →
      exec (.claim q) s = .next (s.served 0x02 q (.answer .notOwner [a.setWidth 8])))
    ∧ (s.ready 0x03 q → s.heldBy q →
      exec (.release q) s = .next ((s.setAgent { s.agent with holder := none, lease := none }).served 0x03 q
        (.answer .ok [0xFF])))
    ∧ (s.ready 0x03 q → s.agent.holder = none →
      exec (.release q) s = .next (s.served 0x03 q (.answer .notOwner [0xFF])))
    ∧ (∀ a, s.ready 0x03 q → s.agent.holder = some a → a ≠ q.requester →
      exec (.release q) s = .next (s.served 0x03 q (.answer .notOwner [a.setWidth 8]))))

/-! ## Ports and routes -/

/-- PORT_CONTROL for the holder: BLOCK removes and counts the NORMAL and SUB frames of an ENABLED port, UNBLOCK sets it
ENABLED, either leaves a port that is so already; a code outside the values is BAD_VALUE. Layout of the results:
log 9. -/
def Obligations.PortControlSetsAdmin : Prop :=
  ∀ (q : Req) (s : State) (a b : Byte), s.ready 0x10 q → s.heldBy q → q.operands = [a, b] →
    (2 < a.toNat ∨ 1 < b.toNat → exec (.portControl q) s = .next (s.refusing 0x10 q .badValue))
    ∧ (∀ p, a = portByte p → b.toNat ≤ 1 →
      let x := s.port p
      let subs := x.urgent.filter (fun e => decide (e.origin = .sub))
      let y : PortState :=
        if b = 1 then { x with admin := .enabled }
        else if x.admin = .blocked then x
        else { x with
          admin := .blocked, normal := []
          urgent := x.urgent.filter (fun e => decide (e.origin ≠ .sub))
          blocked := x.blocked + BitVec.ofNat 32 (x.normal.length + subs.length) }
      let t := s.setPort p y
      exec (.portControl q) s
        = .next (t.leased.served 0x10 q (.answer .ok
            [(t.port .u).line.code, (t.port .u).admin.code, (t.port .d).line.code, (t.port .d).admin.code,
             (t.port .b).line.code, (t.port .b).admin.code])))

/-- READ_COUNTERS: the group's counters in their order; with the clear option, for the holder, the group 0 counters or all
fifteen verdict counters go to 0 in the same event; other codes are BAD_VALUE; the clear option without the claim is
NOT_OWNER. -/
def Obligations.ReadCountersAnswers : Prop :=
  ∀ (q : Req) (s : State) (a g k : Byte), s.ready 0x11 q → q.operands = [a, g, k] →
    (k = 1 → ¬s.heldBy q → exec (.readCounters q) s = .next (s.refusing 0x11 q .notOwner))
    ∧ ((k ≠ 1 ∨ s.heldBy q) → (2 < a.toNat ∨ 2 < g.toNat ∨ 1 < k.toNat) →
      exec (.readCounters q) s = .next (s.refusing 0x11 q .badValue))
    ∧ (∀ p, a = portByte p → g.toNat ≤ 2 →
      let x := s.port p
      let values : List (BitVec 32) :=
        if g = 0 then [x.transmitted, x.aborted, x.fragments, x.full, x.blocked, x.offline]
        else if g = 1 then x.verdicts.toList.take 8
        else x.verdicts.toList.drop 8
      let y : PortState :=
        if g = 0 then { x with
          transmitted := 0, aborted := 0, fragments := 0, full := 0, blocked := 0, offline := 0 }
        else { x with verdicts := .replicate 15 0 }
      let reply := Reply.answer .ok (a :: g :: values.flatMap be32)
      (k = 0 → exec (.readCounters q) s = .next (s.served 0x11 q reply))
      ∧ (k = 1 → s.heldBy q → exec (.readCounters q) s = .next ((s.setPort p y).leased.served 0x11 q reply)))

/-- SET_ROUTE: NOT_OWNER, BAD_LENGTH, BAD_INDEX, BAD_VALUE in this order, or the target in every entry of the range and in no
other, and the lease. -/
def Obligations.SetRouteWritesRange : Prop :=
  ∀ (q : Req) (s : State), s.ready 0x12 q →
    (¬s.heldBy q → exec (.setRoute q) s = .next (s.refusing 0x12 q .notOwner))
    ∧ (s.heldBy q → q.operands.length ≠ 3 → exec (.setRoute q) s = .next (s.refusing 0x12 q .badLength))
    ∧ (∀ a b x : Byte, s.heldBy q → q.operands = [a, b, x] →
    (126 < a.toNat ∨ 126 < b.toNat → exec (.setRoute q) s = .next (s.refusing 0x12 q .badIndex))
    ∧ (a.toNat ≤ 126 → b.toNat ≤ 126 → (b.toNat < a.toNat ∨ 4 < x.toNat) →
      exec (.setRoute q) s = .next (s.refusing 0x12 q .badValue))
    ∧ (∀ target : Target, a.toNat ≤ b.toNat → b.toNat ≤ 126 → x = target.code →
      ∃ routes : Vector Target 127,
        (∀ i : Fin 127, routes[i] = if a.toNat ≤ i.val ∧ i.val ≤ b.toNat then target else s.routes[i])
        ∧ exec (.setRoute q) s
          = .next (({ s with routes := routes } : State).leased.served 0x12 q (.answer .ok []))))

/-- READ_ROUTE: BAD_LENGTH, BAD_INDEX, BAD_VALUE, or the first address, the number of entries and their targets, the run
ending at address 126; nothing else changes. -/
def Obligations.ReadRouteAnswers : Prop :=
  ∀ (q : Req) (s : State), s.ready 0x13 q →
    (q.operands.length ≠ 2 → exec (.readRoute q) s = .next (s.refusing 0x13 q .badLength))
    ∧ (∀ a n : Byte, q.operands = [a, n] →
      (126 < a.toNat → exec (.readRoute q) s = .next (s.refusing 0x13 q .badIndex))
      ∧ (a.toNat ≤ 126 → (n = 0 ∨ 56 < n.toNat) → exec (.readRoute q) s = .next (s.refusing 0x13 q .badValue))
      ∧ (a.toNat ≤ 126 → 1 ≤ n.toNat → n.toNat ≤ 56 →
        let count := min n.toNat (127 - a.toNat)
        ∃ targets : List Target, targets.length = count
          ∧ (∀ j (h : a.toNat + j < 127), j < count → targets[j]? = some s.routes[a.toNat + j])
          ∧ exec (.readRoute q) s
            = .next (s.served 0x13 q (.answer .ok (a :: byte count :: targets.map Target.code)))))

/-! ## The flow table -/

/-- LOAD_FLOW for the holder on an entry of the table: BUSY, FLOW_STATE, BAD_VALUE, DUPLICATE_KEY, NO_HOLD_SLOT in this
order, else the entry is valid and DISABLED with the definition, its slot kept, assigned or freed, and everything else
absent or 0. -/
def Obligations.LoadFlowLoadsEntry : Prop :=
  ∀ (q : Req) (s : State) (i : Fin 64) (bytes : List Byte), s.ready 0x20 q → s.heldBy q →
    q.operands = byte i.val :: bytes → bytes.length = 23 →
    (s.sweep ≠ none → exec (.loadFlow q) s = .next (s.refusing 0x20 q .busy))
    ∧ (∀ f, s.sweep = none → s.flow i = some f → f.state ≠ .disabled →
      exec (.loadFlow q) s = .next (s.refusing 0x20 q .flowState))
    ∧ (s.sweep = none → (∀ f, s.flow i = some f → f.state = .disabled) →
      (FlowDef.ofBytes bytes = none → exec (.loadFlow q) s = .next (s.refusing 0x20 q .badValue))
      ∧ (∀ d, FlowDef.ofBytes bytes = some d →
        ((d.src = s.station ∨ d.dst = s.station) → exec (.loadFlow q) s = .next (s.refusing 0x20 q .badValue))
        ∧ (d.src ≠ s.station → d.dst ≠ s.station →
          let held := (s.flow i).bind Flow.holdSlot
          let free := fun k => ∀ j f, s.flow j = some f → f.holdSlot ≠ some k
          let taken := ∃ j f, j ≠ i ∧ s.flow j = some f ∧ f.defn.src = d.src ∧ f.defn.dst = d.dst ∧ f.defn.ch = d.ch
          (taken → exec (.loadFlow q) s = .next (s.refusing 0x20 q .duplicateKey))
          ∧ (¬taken → d.missPolicy ≠ .report → held = none → (∀ k : Fin 16, ¬free k) →
            exec (.loadFlow q) s = .next (s.refusing 0x20 q .noHoldSlot))
          ∧ (∀ slot : Option (Fin 16), ¬taken →
            ((d.missPolicy = .report ∧ slot = none)
              ∨ (d.missPolicy ≠ .report ∧ held ≠ none ∧ slot = held)
              ∨ (d.missPolicy ≠ .report ∧ held = none ∧ ∃ k, slot = some k ∧ free k ∧ ∀ j, j < k → ¬free j)) →
            exec (.loadFlow q) s
              = .next ((s.setFlow i (some ⟨d, .disabled, none, none, 0, 0, 0, slot, none, .zero⟩)).leased.served 0x20 q
                  (.answer .ok [byte i.val, (slot.map (fun k => byte k.val)).getD 0xFF]))))))

/-- Index and sweep checks of the flow-table commands on one entry, for the holder: BAD_INDEX above 63, then BUSY.
RETIME_FLOW for the holder: FLOW_STATE on an invalid entry, BAD_VALUE outside the ranges, else the three values are
replaced and nothing else of the entry changes. -/
def Obligations.IndexAndSweepChecksAndRetimeFlow : Prop :=
  (∀ (q : Req) (s : State) (i : Byte) (rest : List Byte) (c : Instr) (code : Byte) (n : Nat),
      asRequest c = some (code, q) → s.ready code q → s.heldBy q → q.operands = i :: rest → rest.length = n →
      (code, n) ∈ ([(0x20, 23), (0x21, 6), (0x22, 0), (0x23, 0), (0x24, 0)] : List (Byte × Nat)) →
      (63 < i.toNat → exec c s = .next (s.refusing code q .badIndex))
      ∧ (i.toNat ≤ 63 → s.sweep ≠ none → exec c s = .next (s.refusing code q .busy)))
  ∧ (∀ (q : Req) (s : State) (i : Fin 64) (p1 p0 e1 e0 l1 l0 : Byte), s.ready 0x21 q → s.heldBy q → s.sweep = none →
      q.operands = [byte i.val, p1, p0, e1, e0, l1, l0] →
      let p := p1.toNat * 256 + p0.toNat
      let e := e1.toNat * 256 + e0.toNat
      let l := l1.toNat * 256 + l0.toNat
      (s.flow i = none → exec (.retimeFlow q) s = .next (s.refusing 0x21 q .flowState))
      ∧ (∀ f, s.flow i = some f →
        ((p = 0 ∨ p - 1 < e ∨ p - 1 < l) → exec (.retimeFlow q) s = .next (s.refusing 0x21 q .badValue))
        ∧ (1 ≤ p → e ≤ p - 1 → l ≤ p - 1 →
          let times : List Byte := match f.schedule with
            | none => [0, 0, 0, 0, 0, 0, 0, 0, 0]
            | some x => 1 :: (be32 x.expected ++ be32 x.deadline)
          exec (.retimeFlow q) s
            = .next ((s.setFlow i (some { f with defn := { f.defn with period := p, early := e, late := l } })).leased.served
                0x21 q (.answer .ok (byte i.val :: f.state.code :: times))))))

/-- ARM_FLOW, DISARM_FLOW and DROP_FLOW for the holder, in every state of the entry. -/
def Obligations.ArmDisarmDropFlow : Prop :=
  ∀ (q : Req) (s : State) (i : Fin 64), s.heldBy q → s.sweep = none → q.operands = [byte i.val] →
    (s.flow i = none →
      (s.ready 0x22 q → exec (.armFlow q) s = .next (s.refusing 0x22 q .flowState))
      ∧ (s.ready 0x23 q → exec (.disarmFlow q) s = .next (s.refusing 0x23 q .flowState))
      ∧ (s.ready 0x24 q → exec (.dropFlow q) s = .next (s.refusing 0x24 q .flowState)))
    ∧ (∀ f, s.flow i = some f → f.state ≠ .disabled →
      (s.ready 0x22 q → exec (.armFlow q) s = .next (s.refusing 0x22 q .flowState))
      ∧ (s.ready 0x24 q → exec (.dropFlow q) s = .next (s.refusing 0x24 q .flowState))
      ∧ (s.ready 0x23 q →
        exec (.disarmFlow q) s
          = .next ((s.setFlow i (some { f with
              state := .disabled, schedule := none, lastSeq := none, misses := 0, good := 0, subs := 0 })).leased.served
                0x23 q (.answer .ok [byte i.val, f.state.code]))))
    ∧ (∀ f, s.flow i = some f → f.state = .disabled →
      (s.ready 0x22 q →
        exec (.armFlow q) s
          = .next ((s.setFlow i (some { f with
              state := .armed, schedule := none, lastSeq := none, misses := 0, good := 0, subs := 0
              holdContent := none })).leased.served 0x22 q (.answer .ok [byte i.val, 1])))
      ∧ (s.ready 0x23 q → exec (.disarmFlow q) s = .next (s.leased.served 0x23 q (.answer .ok [byte i.val, 0])))
      ∧ (s.ready 0x24 q →
        exec (.dropFlow q) s
          = .next ((s.setFlow i none).leased.served 0x24 q
              (.answer .ok [byte i.val, (f.holdSlot.map (fun k => byte k.val)).getD 0xFF]))))

/-- READ_FLOW, during a sweep as at other times: NOT_OWNER for the clear option without the claim, BAD_INDEX, BAD_VALUE, or
the part; with the clear option the fifteen counters go to 0 in the same event and the lease starts. -/
def Obligations.ReadFlowAnswers : Prop :=
  ∀ (q : Req) (s : State) (i part k : Byte), s.ready 0x25 q → q.operands = [i, part, k] →
    (k = 1 → ¬s.heldBy q → exec (.readFlow q) s = .next (s.refusing 0x25 q .notOwner))
    ∧ ((k ≠ 1 ∨ s.heldBy q) → 63 < i.toNat → exec (.readFlow q) s = .next (s.refusing 0x25 q .badIndex))
    ∧ ((k ≠ 1 ∨ s.heldBy q) → i.toNat ≤ 63 → (2 < part.toNat ∨ 1 < k.toNat) →
      exec (.readFlow q) s = .next (s.refusing 0x25 q .badValue))
    ∧ (∀ j : Fin 64, i = byte j.val → part.toNat ≤ 2 →
      (s.flow j = none →
        (k = 0 → exec (.readFlow q) s = .next (s.served 0x25 q (.answer .ok [i, 0])))
        ∧ (k = 1 → s.heldBy q → exec (.readFlow q) s = .next (s.leased.served 0x25 q (.answer .ok [i, 0]))))
      ∧ (∀ f, s.flow j = some f →
        let c := f.counters
        let content : List Byte :=
          if part = 0 then
            f.defn.bytes ++ [f.state.code]
            ++ (match f.schedule with
                | none => [0, 0, 0, 0, 0, 0, 0, 0, 0]
                | some x => 1 :: (be32 x.expected ++ be32 x.deadline))
            ++ (match f.lastSeq with
                | none => [0, 0]
                | some n => [1, n])
            ++ [byte f.misses, byte f.good, byte f.subs, (f.holdSlot.map (fun h => byte h.val)).getD 0xFF,
                (f.holdContent.map (fun h => byte h.length)).getD 0xFF]
          else if part = 1 then
            [c.accepted, c.forwarded, c.gated, c.early, c.late, c.missed, c.substituted, c.cuts].flatMap be32
          else [c.duplicate, c.stale, c.skipped, c.breaks, c.wrongPort, c.lengthFaults, c.subSeen].flatMap be32
        let reply := Reply.answer .ok (i :: 1 :: content)
        (k = 0 → exec (.readFlow q) s = .next (s.served 0x25 q reply))
        ∧ (k = 1 → s.heldBy q →
          exec (.readFlow q) s = .next ((s.setFlow j (some { f with counters := .zero })).leased.served 0x25 q reply))))

/-! ## Attention commands -/

/-- READ_ATTENTION: BAD_INDEX, BAD_VALUE, or the summary and the window; nothing else changes. The byte that stands for
ALERT, 1 for asserted and 0 for deasserted, is the model's choice, log 9. -/
def Obligations.ReadAttentionAnswers : Prop :=
  ∀ (q : Req) (s : State) (a n : Byte), s.ready 0x30 q → q.operands = [a, n] →
    (31 < a.toNat → exec (.readAttention q) s = .next (s.refusing 0x30 q .badIndex))
    ∧ (a.toNat ≤ 31 → (n = 0 ∨ 3 < n.toNat) → exec (.readAttention q) s = .next (s.refusing 0x30 q .badValue))
    ∧ (a.toNat ≤ 31 → 1 ≤ n.toNat → n.toNat ≤ 3 →
      let window := (s.attention.records.drop a.toNat).take n.toNat
      let state : Byte := match s.reporter.state with
        | .idle => 0
        | .waitAck => 1
        | .stalled => 2
      exec (.readAttention q) s
        = .next (s.served 0x30 q (.answer .ok
            (byte s.attention.records.length :: be16 s.attention.lost
              ++ [state, (if s.alertCondition then 1 else 0), a, byte window.length]
              ++ window.flatMap (fun r =>
                  be16 r.id ++ [r.cause.code, r.object, byte r.rank, byte r.count] ++ be32 r.last
                  ++ [byte (r.reportedCount.getD 0)] ++ be32 r.first
                  ++ [if r.state = .reported then 1 else 0])))))

/-- One item of an ACK_ATTENTION against the list: what it answers, which record it removes, reduces or keeps, and that
it marks the item of the outstanding report; the items one after another. What follows the items: in WAIT_ACK the report
ends when each of its items is acknowledged or off the list, in STALLED the stall ends, and the next report begins if
one may. ACK_ATTENTION: NOT_OWNER but for the holder and REPORT_ADDR, BAD_LENGTH, BAD_VALUE above eight items, or
the items in order, then the lost count, then what follows; the lease starts for the holder alone. -/
def Obligations.AckAttentionAcknowledges : Prop :=
  (∀ (n c : Nat) (s : State), s.attention.ok →
      let mark := fun (t : State) => t.setReporter { t.reporter with
        outstanding := t.reporter.outstanding.map (fun i => if i.id = n then { i with acked := true } else i) }
      let put := fun (x : List AttentionRecord) (t : State) => t.setAttention { t.attention with records := x }
      (c = 0 → s.ackItem n c = (be16 n ++ [0x04, 0], s))
      ∧ (c ≠ 0 → (∀ r ∈ s.attention.records, r.id ≠ n) → s.ackItem n c = (be16 n ++ [0x0C, 0], s))
      ∧ (∀ before r after, c ≠ 0 → s.attention.records = before ++ r :: after → r.id = n →
        (r.count < c → s.ackItem n c = (be16 n ++ [0x04, 0], s))
        ∧ (c = r.count → r.count = 255 → r.state = .unreported →
          s.ackItem n c = (be16 n ++ [0x00, 1], mark (put (before ++ { r with count := 1 } :: after) s)))
        ∧ (c = r.count → ¬(r.count = 255 ∧ r.state = .unreported) →
          s.ackItem n c = (be16 n ++ [0x00, 0], mark (put (before ++ after) s)))
        ∧ (c < r.count →
          s.ackItem n c = (be16 n ++ [0x00, byte (r.count - c)],
            mark (put (before ++ { r with count := r.count - c, state := .unreported } :: after) s)))))
  ∧ (∀ s : State,
      s.ackItems [] = ([], s)
      ∧ (∀ h l c rest,
        let x := s.ackItem (h.toNat * 256 + l.toNat) c.toNat
        s.ackItems (h :: l :: c :: rest) = (x.1 ++ (x.2.ackItems rest).1, (x.2.ackItems rest).2))
      ∧ (let complete := ∀ i ∈ s.reporter.outstanding, i.acked = true ∨ ∀ r ∈ s.attention.records, r.id ≠ i.id
        let ids := s.reporter.outstanding.map (·.id)
        let ended := fun (t : State) => (t.setReporter ⟨.idle, s.reporter.tag, [], 0, none⟩).pollReporter
        (s.reporter.state = .idle → s.afterAck = s.pollReporter)
        ∧ (s.reporter.state = .waitAck → complete → s.afterAck = ended s)
        ∧ (s.reporter.state = .waitAck → ¬complete → s.afterAck = s)
        ∧ (s.reporter.state = .stalled →
          s.afterAck = ended (s.setAttention { s.attention with records := s.attention.records.map (fun r =>
            if ids.contains r.id then { r with state := .unreported } else r) }))))
  ∧ (∀ (q : Req) (s : State), s.ready 0x31 q →
      let allowed := s.heldBy q ∨ s.params.reportAddr = some q.requester
      (¬allowed → exec (.ackAttention q) s = .next (s.refusing 0x31 q .notOwner))
      ∧ (allowed → q.operands.length < 3 → exec (.ackAttention q) s = .next (s.refusing 0x31 q .badLength))
      ∧ (∀ l1 l0 n items, allowed → q.operands = l1 :: l0 :: n :: items →
        (items.length ≠ 3 * n.toNat → exec (.ackAttention q) s = .next (s.refusing 0x31 q .badLength))
        ∧ (items.length = 3 * n.toNat → 8 < n.toNat → exec (.ackAttention q) s = .next (s.refusing 0x31 q .badValue))
        ∧ (items.length = 3 * n.toNat → n.toNat ≤ 8 →
          let u := (s.ackItems items).2
          let t := (u.setAttention { u.attention with
            lost := u.attention.lost - (l1.toNat * 256 + l0.toNat) }).afterAck
          let results := n :: (s.ackItems items).1 ++ be16 t.attention.lost ++ [t.reporter.state.code]
          exec (.ackAttention q) s
            = .next ((if s.heldBy q then t.leased else t).served 0x31 q (.answer .ok results)))))

/-- CLEAR_ATTENTION, SET_CAUSE and FORCE_ATTENTION for the holder. The layout of the SET_CAUSE results is the model's
choice, log 9. -/
def Obligations.ClearSetForceAttention : Prop :=
  ∀ (q : Req) (s : State), s.heldBy q →
    (s.ready 0x32 q → q.operands = [] →
      exec (.clearAttention q) s
        = .next (((s.setAttention { s.attention with records := [], lost := 0 }).setReporter
            ⟨.idle, s.reporter.tag, [], 0, none⟩).leased.served 0x32 q
              (.answer .ok (byte s.attention.records.length :: be16 s.attention.lost))))
    ∧ (∀ code mask rank : Byte, s.ready 0x33 q → q.operands = [code, mask, rank] →
      (((∀ c : Cause, c.code ≠ code) ∨ 1 < mask.toNat ∨ 7 < rank.toNat) →
        exec (.setCause q) s = .next (s.refusing 0x33 q .badValue))
      ∧ (∀ c : Cause, c.code = code → mask.toNat ≤ 1 → rank.toNat ≤ 7 →
        ∃ causes : Vector CauseSetting 17,
          (∀ d : Cause, causes[d.index] = if d = c then ⟨decide (mask = 1), rank.toNat⟩ else s.attention.setting d)
          ∧ exec (.setCause q) s
            = .next ((s.setAttention { s.attention with causes := causes }).leased.served 0x33 q (.answer .ok
                [code, (if (s.attention.setting c).masked then 1 else 0), byte (s.attention.setting c).rank, mask,
                 rank]))))
    ∧ (∀ object rank : Byte, s.ready 0x34 q → q.operands = [object, rank] →
      (7 < rank.toNat → exec (.forceAttention q) s = .next (s.refusing 0x34 q .badValue))
      ∧ (rank.toNat ≤ 7 →
        let e : AttentionEvent := ⟨.testForced, object, s.time, none, some rank.toNat⟩
        let results : List Byte := match (s.attention.take e).1 with
          | .created id => 0 :: be16 id
          | .added id => 1 :: be16 id
          | .masked => [2, 0, 0]
          | .lost => [3, 0, 0]
        exec (.forceAttention q) s
          = .next ((((s.raise (.announce .testForced object)).setAttention (s.attention.take e).2).pollReporter).leased.served
              0x34 q (.answer .ok results))))

/-! ## Ring commands -/

/-- The ring commands that need the claim answer BAD_INDEX above ring 7. DEFINE_RING for the holder: RING_STATE while it
records, BAD_VALUE, RING_OVERLAP, else the ring is IDLE and empty under the new definition. The layout of the results is
the model's choice, log 9. -/
def Obligations.DefineRingDefines : Prop :=
  (∀ (q : Req) (s : State) (i : Byte) (rest : List Byte) (c : Instr) (code : Byte) (n : Nat),
    asRequest c = some (code, q) → s.ready code q → s.heldBy q → q.operands = i :: rest → rest.length = n →
    (code, n) ∈ ([(0x40, 15), (0x41, 0), (0x42, 0), (0x43, 0), (0x45, 0)] : List (Byte × Nat)) → 7 < i.toNat →
    exec c s = .next (s.refusing code q .badIndex))
  ∧ (∀ (q : Req) (s : State) (k : Fin 8) (bytes : List Byte), s.ready 0x40 q → s.heldBy q →
      q.operands = byte k.val :: bytes → bytes.length = 15 →
      let recording := ∃ r, s.ring k = some r ∧ (r.state = .running ∨ r.state = .postfill)
      (recording → exec (.defineRing q) s = .next (s.refusing 0x40 q .ringState))
      ∧ (¬recording → RingDef.ofBytes bytes = none → exec (.defineRing q) s = .next (s.refusing 0x40 q .badValue))
      ∧ (∀ d, ¬recording → RingDef.ofBytes bytes = some d →
        let meets := ∃ j r, j ≠ k ∧ s.ring j = some r
          ∧ ∃ slot, r.defn.base ≤ slot ∧ slot < r.defn.base + r.defn.size ∧ d.base ≤ slot ∧ slot < d.base + d.size
        ((∀ j r, s.ring j = some r → 0 < r.defn.size) → meets →
          exec (.defineRing q) s = .next (s.refusing 0x40 q .ringOverlap))
        ∧ ((∀ j r, s.ring j = some r → 0 < r.defn.size) → ¬meets →
          exec (.defineRing q) s
            = .next ((s.setRing k (some ⟨d, .idle, 0, 0, none⟩)).leased.served 0x40 q
                (.answer .ok (byte k.val :: be16 d.base ++ be16 d.size))))))

/-- START_RING, STOP_RING, TRIGGER_RING and DISCARD_RING for the holder, in every state of the ring. The records held in
two bytes are the model's choice, log 9. -/
def Obligations.StartStopTriggerDiscardRing : Prop :=
  ∀ (q : Req) (s : State) (k : Fin 8), s.heldBy q → q.operands = [byte k.val] →
    (s.ring k = none →
      (s.ready 0x41 q → exec (.startRing q) s = .next (s.refusing 0x41 q .ringState))
      ∧ (s.ready 0x42 q → exec (.stopRing q) s = .next (s.refusing 0x42 q .ringState))
      ∧ (s.ready 0x43 q → exec (.triggerRing q) s = .next (s.refusing 0x43 q .ringState))
      ∧ (s.ready 0x45 q →
        exec (.discardRing q) s = .next ((s.setRing k none).leased.served 0x45 q (.answer .ok [byte k.val, 0xFF]))))
    ∧ (∀ r, s.ring k = some r →
      ((r.state = .running ∨ r.state = .postfill) →
        (s.ready 0x41 q → exec (.startRing q) s = .next (s.refusing 0x41 q .ringState))
        ∧ (s.ready 0x42 q →
          exec (.stopRing q) s
            = .next ((s.setRing k (some { r with state := .frozen, remaining := none })).leased.served 0x42 q
                (.answer .ok ([byte k.val, r.state.code] ++ be32 r.next ++ be16 r.held)))))
      ∧ ((r.state = .idle ∨ r.state = .frozen) →
        (s.ready 0x42 q → exec (.stopRing q) s = .next (s.refusing 0x42 q .ringState))
        ∧ (s.ready 0x41 q →
          exec (.startRing q) s
            = .next ((s.setRing k (some ⟨r.defn, .running, 0, 0, none⟩)).leased.served 0x41 q
                (.answer .ok [byte k.val, 1]))))
      ∧ (s.ready 0x43 q →
        (r.state ≠ .running →
          exec (.triggerRing q) s
            = .next (s.leased.served 0x43 q (.answer .ok [byte k.val, r.state.code, r.state.code])))
        ∧ (r.state = .running → r.defn.postCount ≠ 0 →
          exec (.triggerRing q) s
            = .next ((s.setRing k (some { r with
                state := .postfill, remaining := some r.defn.postCount })).leased.served 0x43 q
                  (.answer .ok [byte k.val, 1, 2])))
        ∧ (r.state = .running → r.defn.postCount = 0 →
          exec (.triggerRing q) s
            = .next (((s.setRing k (some { r with state := .frozen, remaining := none })).raiseEvent .ringFrozen
                (byte k.val)).leased.served 0x43 q (.answer .ok [byte k.val, 1, 3]))))
      ∧ (s.ready 0x45 q →
        exec (.discardRing q) s
          = .next ((s.setRing k none).leased.served 0x45 q (.answer .ok [byte k.val, r.state.code]))))

/-- A record in the results of READ_RING: TIME, ingress, verdict, flow index or 0xFF, header copy, stored length, and
payload bytes up to the capture length, the missing ones 0. READ_RING: BAD_INDEX, RING_STATE, or the fixed results and
the records from the start, from the oldest with OVERRUN, or none; nothing else changes. -/
def Obligations.ReadRingAnswers : Prop :=
  (∀ (r : Ring) (n : BitVec 32) (c : CaptureRecord) (s : State),
      CaptureMemory.read (r.defn.base + n.toNat % r.defn.size) s.capture.memory = some c → c.header.length = 6 →
      let ingress : Byte := match c.ingress with
        | .port .u => 0
        | .port .d => 1
        | .port .b => 2
        | .gen => 3
      let verdict : Byte := match c.verdict with
        | .arrival v => byte v.index.val
        | .generated => 15
      let flow : Byte := match c.flow with
        | none => 0xFF
        | some i => byte i.val
      s.recordBytes r n
        = be32 c.time ++ [ingress, verdict, flow] ++ c.header ++ [byte c.storedLength]
          ++ c.payload.take r.defn.captureLength ++ List.replicate (r.defn.captureLength - c.payload.length) 0)
  ∧ ∀ (q : Req) (s : State) (k a b c d : Byte), s.ready 0x44 q → q.operands = [k, a, b, c, d] →
    (7 < k.toNat → exec (.readRing q) s = .next (s.refusing 0x44 q .badIndex))
    ∧ (∀ j : Fin 8, k = byte j.val →
      (s.ring j = none → exec (.readRing q) s = .next (s.refusing 0x44 q .ringState))
      ∧ (∀ r, s.ring j = some r →
        let start := word32 a b c d
        let oldest := r.next - BitVec.ofNat 32 r.held
        let fixed := fun (overrun : Byte) (n : Nat) =>
          [k, r.state.code ||| overrun] ++ be32 oldest ++ be32 r.next ++ [byte n]
        let most := 47 / (14 + r.defn.captureLength)
        let records := fun (first : BitVec 32) (n : Nat) =>
          (List.range n).flatMap (fun i => s.recordBytes r (first + BitVec.ofNat 32 i))
        ((start - oldest).toNat < r.held →
          let n := min most (r.held - (start - oldest).toNat)
          exec (.readRing q) s = .next (s.served 0x44 q (.answer .ok (fixed 0 n ++ records start n))))
        ∧ (r.held ≤ (start - oldest).toNat → (start - r.next).toNat < 2 ^ 31 →
          exec (.readRing q) s = .next (s.served 0x44 q (.answer .ok (fixed 0 0))))
        ∧ (r.held ≤ (start - oldest).toNat → 2 ^ 31 ≤ (start - r.next).toNat →
          let n := min most r.held
          exec (.readRing q) s = .next (s.served 0x44 q (.answer .ok (fixed 0x80 n ++ records oldest n))))))

/-! ## Sense commands -/

/-- SENSE_CONFIG for the holder: BAD_INDEX, BAD_VALUE, or the three settings, and the qualification abandoned or restarted
under them. The layout of the results is the model's choice, log 9. -/
def Obligations.SenseConfigConfigures : Prop :=
  ∀ (q : Req) (s : State) (i p n e : Byte), s.ready 0x50 q → s.heldBy q → q.operands = [i, p, n, e] →
    (3 < i.toNat → exec (.senseConfig q) s = .next (s.refusing 0x50 q .badIndex))
    ∧ (i.toNat ≤ 3 → (1 < p.toNat ∨ 3 < e.toNat) →
      exec (.senseConfig q) s = .next (s.refusing 0x50 q .badValue))
    ∧ (∀ (j : Fin 4) (polarity : Polarity) (edges : Edges), i = byte j.val → p = polarity.code → e = edges.code →
      let x := s.input j
      let raw := rawState polarity x.level
      let after := s.time + BitVec.ofNat 32 (n.toNat * 10)
      ∃ y : Sense,
        (raw = x.debounced →
          y = { x with polarity := polarity, debounce := n, edges := edges, qualification := none })
        ∧ (raw ≠ x.debounced → before x.nextSample after = false →
          y = { x with polarity := polarity, debounce := n, edges := edges
                       qualification := some ⟨raw, x.nextSample⟩ })
        ∧ (raw ≠ x.debounced → before x.nextSample after = true → ∃ m : Nat,
          y = { x with polarity := polarity, debounce := n, edges := edges
                       qualification := some ⟨raw, x.nextSample + BitVec.ofNat 32 (m * 10)⟩ }
          ∧ (after - x.nextSample).toNat ≤ m * 10 ∧ m * 10 < (after - x.nextSample).toNat + 10)
        ∧ exec (.senseConfig q) s
          = .next ((s.setInput j y).leased.served 0x50 q (.answer .ok
              ([i, x.polarity.code, x.debounce, x.edges.code, p, n, e, levelCode x.level, raw.code, x.debounced.code]
                ++ (match y.qualification with
                    | none => [0, 0]
                    | some t => [1, t.target.code])))))

/-- READ_SENSE: BAD_LENGTH with operands, else eight bytes for each input; nothing else changes. -/
def Obligations.ReadSenseAnswers : Prop :=
  ∀ (q : Req) (s : State), s.ready 0x51 q →
    (q.operands ≠ [] → exec (.readSense q) s = .next (s.refusing 0x51 q .badLength))
    ∧ (q.operands = [] →
      let bytes := fun (i : Fin 4) => let x := s.input i
        [levelCode x.level, (rawState x.polarity x.level).code, x.debounced.code]
        ++ (match x.qualification with
            | none => [0, 0]
            | some t => [1, t.target.code])
        ++ [x.polarity.code, x.debounce, x.edges.code]
      exec (.readSense q) s = .next (s.served 0x51 q (.answer .ok (bytes 0 ++ bytes 1 ++ bytes 2 ++ bytes 3))))
end

