-- ==== Sys2Proof/Laws/Capture.lean ====
section
/-! SUPPORT. Capture memory: a write keeps the canonical form, and what a slot reads as after it. -/
namespace Sys2Proof.Machine

theorem CaptureMemory.wf_tail {x : Nat × CaptureRecord} {m : CaptureMemory} (h : wf (x :: m) = true) :
    wf m = true := by
  cases m with
  | nil => rfl
  | cons y rest => exact (Bool.and_eq_true_iff.mp h).2

/-- Every listed slot is above a lower bound. -/
def CaptureMemory.above (n : Nat) : CaptureMemory → Prop
  | [] => True
  | x :: _ => n < x.1

theorem CaptureMemory.wf_cons {x : Nat × CaptureRecord} {m : CaptureMemory} (hx : x.1 < 1024)
    (ha : above x.1 m) (hm : wf m = true) : wf (x :: m) = true := by
  cases m with
  | nil => simpa [wf] using hx
  | cons y rest => exact Bool.and_eq_true_iff.mpr ⟨by simpa [above] using ha, hm⟩

theorem CaptureMemory.head_lt {x : Nat × CaptureRecord} {m : CaptureMemory} (h : wf (x :: m) = true) :
    x.1 < 1024 := by
  induction m generalizing x with
  | nil => simpa [wf] using h
  | cons y rest ih =>
    have h' := Bool.and_eq_true_iff.mp h
    exact Nat.lt_trans (by simpa using h'.1) (ih h'.2)

theorem CaptureMemory.above_of_wf {x : Nat × CaptureRecord} {m : CaptureMemory} (h : wf (x :: m) = true) :
    above x.1 m := by
  cases m with
  | nil => trivial
  | cons y rest => simpa [above] using (Bool.and_eq_true_iff.mp h).1

theorem CaptureMemory.above_write {n slot : Nat} {r : CaptureRecord} {m : CaptureMemory} (hn : n < slot)
    (hm : above n m) : above n (write slot r m) := by
  cases m with
  | nil => simpa [write, above] using hn
  | cons y rest =>
    unfold write
    split
    · exact hn
    · split
      · exact hn
      · exact hm

/-- A write to a slot of the memory keeps the canonical form. -/
theorem CaptureMemory.wf_write {slot : Nat} (hs : slot < 1024) (r : CaptureRecord) {m : CaptureMemory}
    (h : wf m = true) : wf (write slot r m) = true := by
  induction m with
  | nil => simpa [write, wf] using hs
  | cons x rest ih =>
    unfold write
    split
    · next hlt => exact wf_cons hs (by simpa [above] using hlt) h
    · split
      · next heq => exact wf_cons hs (by simpa [heq] using above_of_wf h) (wf_tail h)
      · next h1 h2 =>
        exact wf_cons (head_lt h) (above_write (by omega) (above_of_wf h)) (ih (wf_tail h))

/-- A slot just written reads as the record written. -/
theorem CaptureMemory.read_write_same (slot : Nat) (r : CaptureRecord) (m : CaptureMemory) :
    read slot (write slot r m) = some r := by
  induction m with
  | nil => simp [write, read]
  | cons x rest ih =>
    unfold write
    split
    · simp [read]
    · split
      · simp [read]
      · next h1 h2 =>
        have : x.1 ≠ slot := fun e => h2 e.symm
        simpa [read, this] using ih

/-- Every other slot reads as before. -/
theorem CaptureMemory.read_write_ne {slot n : Nat} (hn : n ≠ slot) (r : CaptureRecord) (m : CaptureMemory) :
    read n (write slot r m) = read n m := by
  have hs : slot ≠ n := fun e => hn e.symm
  induction m with
  | nil => simp [write, read, hs]
  | cons x rest ih =>
    unfold write
    split
    · simp [read, hs]
    · split
      · next _ heq => simp [read, hs, ← heq]
      · simp [read, ih]

end Sys2Proof.Machine
end

