-- ==== Sys2Proof/Laws/State.lean ====
section
/-! SUPPORT. What each update of the state gives at each field, all by `rfl`; and reading back what was written. -/
namespace Sys2Proof.Machine

variable (s : State)

/-! ## setPort -/

@[simp] theorem State.pending_setPort (p : Port) (x : PortState) : (s.setPort p x).pending = s.pending := rfl
@[simp] theorem State.clock_setPort (p : Port) (x : PortState) : (s.setPort p x).clock = s.clock := rfl
@[simp] theorem State.resetAsserted_setPort (p : Port) (x : PortState) : (s.setPort p x).resetAsserted = s.resetAsserted := rfl
@[simp] theorem State.station_setPort (p : Port) (x : PortState) : (s.setPort p x).station = s.station := rfl
@[simp] theorem State.alert_setPort (p : Port) (x : PortState) : (s.setPort p x).alert = s.alert := rfl
@[simp] theorem State.ports_setPort (p : Port) (x : PortState) : (s.setPort p x).ports = s.ports.set p x := rfl
@[simp] theorem State.routes_setPort (p : Port) (x : PortState) : (s.setPort p x).routes = s.routes := rfl
@[simp] theorem State.flows_setPort (p : Port) (x : PortState) : (s.setPort p x).flows = s.flows := rfl
@[simp] theorem State.sweep_setPort (p : Port) (x : PortState) : (s.setPort p x).sweep = s.sweep := rfl
@[simp] theorem State.attention_setPort (p : Port) (x : PortState) : (s.setPort p x).attention = s.attention := rfl
@[simp] theorem State.reporter_setPort (p : Port) (x : PortState) : (s.setPort p x).reporter = s.reporter := rfl
@[simp] theorem State.capture_setPort (p : Port) (x : PortState) : (s.setPort p x).capture = s.capture := rfl
@[simp] theorem State.sense_setPort (p : Port) (x : PortState) : (s.setPort p x).sense = s.sense := rfl
@[simp] theorem State.agent_setPort (p : Port) (x : PortState) : (s.setPort p x).agent = s.agent := rfl
@[simp] theorem State.raised_setPort (p : Port) (x : PortState) : (s.setPort p x).raised = s.raised := rfl
@[simp] theorem State.choices_setPort (p : Port) (x : PortState) : (s.setPort p x).choices = s.choices := rfl

/-! ## setFlow -/

@[simp] theorem State.pending_setFlow (i : Fin 64) (x : Option Flow) : (s.setFlow i x).pending = s.pending := rfl
@[simp] theorem State.clock_setFlow (i : Fin 64) (x : Option Flow) : (s.setFlow i x).clock = s.clock := rfl
@[simp] theorem State.resetAsserted_setFlow (i : Fin 64) (x : Option Flow) : (s.setFlow i x).resetAsserted = s.resetAsserted := rfl
@[simp] theorem State.station_setFlow (i : Fin 64) (x : Option Flow) : (s.setFlow i x).station = s.station := rfl
@[simp] theorem State.alert_setFlow (i : Fin 64) (x : Option Flow) : (s.setFlow i x).alert = s.alert := rfl
@[simp] theorem State.ports_setFlow (i : Fin 64) (x : Option Flow) : (s.setFlow i x).ports = s.ports := rfl
@[simp] theorem State.routes_setFlow (i : Fin 64) (x : Option Flow) : (s.setFlow i x).routes = s.routes := rfl
@[simp] theorem State.flows_setFlow (i : Fin 64) (x : Option Flow) : (s.setFlow i x).flows = s.flows.set i x := rfl
@[simp] theorem State.sweep_setFlow (i : Fin 64) (x : Option Flow) : (s.setFlow i x).sweep = s.sweep := rfl
@[simp] theorem State.attention_setFlow (i : Fin 64) (x : Option Flow) : (s.setFlow i x).attention = s.attention := rfl
@[simp] theorem State.reporter_setFlow (i : Fin 64) (x : Option Flow) : (s.setFlow i x).reporter = s.reporter := rfl
@[simp] theorem State.capture_setFlow (i : Fin 64) (x : Option Flow) : (s.setFlow i x).capture = s.capture := rfl
@[simp] theorem State.sense_setFlow (i : Fin 64) (x : Option Flow) : (s.setFlow i x).sense = s.sense := rfl
@[simp] theorem State.agent_setFlow (i : Fin 64) (x : Option Flow) : (s.setFlow i x).agent = s.agent := rfl
@[simp] theorem State.raised_setFlow (i : Fin 64) (x : Option Flow) : (s.setFlow i x).raised = s.raised := rfl
@[simp] theorem State.choices_setFlow (i : Fin 64) (x : Option Flow) : (s.setFlow i x).choices = s.choices := rfl

/-! ## setRing -/

@[simp] theorem State.pending_setRing (k : Fin 8) (x : Option Ring) : (s.setRing k x).pending = s.pending := rfl
@[simp] theorem State.clock_setRing (k : Fin 8) (x : Option Ring) : (s.setRing k x).clock = s.clock := rfl
@[simp] theorem State.resetAsserted_setRing (k : Fin 8) (x : Option Ring) : (s.setRing k x).resetAsserted = s.resetAsserted := rfl
@[simp] theorem State.station_setRing (k : Fin 8) (x : Option Ring) : (s.setRing k x).station = s.station := rfl
@[simp] theorem State.alert_setRing (k : Fin 8) (x : Option Ring) : (s.setRing k x).alert = s.alert := rfl
@[simp] theorem State.ports_setRing (k : Fin 8) (x : Option Ring) : (s.setRing k x).ports = s.ports := rfl
@[simp] theorem State.routes_setRing (k : Fin 8) (x : Option Ring) : (s.setRing k x).routes = s.routes := rfl
@[simp] theorem State.flows_setRing (k : Fin 8) (x : Option Ring) : (s.setRing k x).flows = s.flows := rfl
@[simp] theorem State.sweep_setRing (k : Fin 8) (x : Option Ring) : (s.setRing k x).sweep = s.sweep := rfl
@[simp] theorem State.attention_setRing (k : Fin 8) (x : Option Ring) : (s.setRing k x).attention = s.attention := rfl
@[simp] theorem State.reporter_setRing (k : Fin 8) (x : Option Ring) : (s.setRing k x).reporter = s.reporter := rfl
@[simp] theorem State.capture_setRing (k : Fin 8) (x : Option Ring) : (s.setRing k x).capture = { s.capture with rings := s.capture.rings.set k x } := rfl
@[simp] theorem State.sense_setRing (k : Fin 8) (x : Option Ring) : (s.setRing k x).sense = s.sense := rfl
@[simp] theorem State.agent_setRing (k : Fin 8) (x : Option Ring) : (s.setRing k x).agent = s.agent := rfl
@[simp] theorem State.raised_setRing (k : Fin 8) (x : Option Ring) : (s.setRing k x).raised = s.raised := rfl
@[simp] theorem State.choices_setRing (k : Fin 8) (x : Option Ring) : (s.setRing k x).choices = s.choices := rfl

/-! ## setMemory -/

@[simp] theorem State.pending_setMemory (m : CaptureMemory) : (s.setMemory m).pending = s.pending := rfl
@[simp] theorem State.clock_setMemory (m : CaptureMemory) : (s.setMemory m).clock = s.clock := rfl
@[simp] theorem State.resetAsserted_setMemory (m : CaptureMemory) : (s.setMemory m).resetAsserted = s.resetAsserted := rfl
@[simp] theorem State.station_setMemory (m : CaptureMemory) : (s.setMemory m).station = s.station := rfl
@[simp] theorem State.alert_setMemory (m : CaptureMemory) : (s.setMemory m).alert = s.alert := rfl
@[simp] theorem State.ports_setMemory (m : CaptureMemory) : (s.setMemory m).ports = s.ports := rfl
@[simp] theorem State.routes_setMemory (m : CaptureMemory) : (s.setMemory m).routes = s.routes := rfl
@[simp] theorem State.flows_setMemory (m : CaptureMemory) : (s.setMemory m).flows = s.flows := rfl
@[simp] theorem State.sweep_setMemory (m : CaptureMemory) : (s.setMemory m).sweep = s.sweep := rfl
@[simp] theorem State.attention_setMemory (m : CaptureMemory) : (s.setMemory m).attention = s.attention := rfl
@[simp] theorem State.reporter_setMemory (m : CaptureMemory) : (s.setMemory m).reporter = s.reporter := rfl
@[simp] theorem State.capture_setMemory (m : CaptureMemory) : (s.setMemory m).capture = { s.capture with memory := m } := rfl
@[simp] theorem State.sense_setMemory (m : CaptureMemory) : (s.setMemory m).sense = s.sense := rfl
@[simp] theorem State.agent_setMemory (m : CaptureMemory) : (s.setMemory m).agent = s.agent := rfl
@[simp] theorem State.raised_setMemory (m : CaptureMemory) : (s.setMemory m).raised = s.raised := rfl
@[simp] theorem State.choices_setMemory (m : CaptureMemory) : (s.setMemory m).choices = s.choices := rfl

/-! ## setInput -/

@[simp] theorem State.pending_setInput (i : Fin 4) (x : Sense) : (s.setInput i x).pending = s.pending := rfl
@[simp] theorem State.clock_setInput (i : Fin 4) (x : Sense) : (s.setInput i x).clock = s.clock := rfl
@[simp] theorem State.resetAsserted_setInput (i : Fin 4) (x : Sense) : (s.setInput i x).resetAsserted = s.resetAsserted := rfl
@[simp] theorem State.station_setInput (i : Fin 4) (x : Sense) : (s.setInput i x).station = s.station := rfl
@[simp] theorem State.alert_setInput (i : Fin 4) (x : Sense) : (s.setInput i x).alert = s.alert := rfl
@[simp] theorem State.ports_setInput (i : Fin 4) (x : Sense) : (s.setInput i x).ports = s.ports := rfl
@[simp] theorem State.routes_setInput (i : Fin 4) (x : Sense) : (s.setInput i x).routes = s.routes := rfl
@[simp] theorem State.flows_setInput (i : Fin 4) (x : Sense) : (s.setInput i x).flows = s.flows := rfl
@[simp] theorem State.sweep_setInput (i : Fin 4) (x : Sense) : (s.setInput i x).sweep = s.sweep := rfl
@[simp] theorem State.attention_setInput (i : Fin 4) (x : Sense) : (s.setInput i x).attention = s.attention := rfl
@[simp] theorem State.reporter_setInput (i : Fin 4) (x : Sense) : (s.setInput i x).reporter = s.reporter := rfl
@[simp] theorem State.capture_setInput (i : Fin 4) (x : Sense) : (s.setInput i x).capture = s.capture := rfl
@[simp] theorem State.sense_setInput (i : Fin 4) (x : Sense) : (s.setInput i x).sense = s.sense.set i x := rfl
@[simp] theorem State.agent_setInput (i : Fin 4) (x : Sense) : (s.setInput i x).agent = s.agent := rfl
@[simp] theorem State.raised_setInput (i : Fin 4) (x : Sense) : (s.setInput i x).raised = s.raised := rfl
@[simp] theorem State.choices_setInput (i : Fin 4) (x : Sense) : (s.setInput i x).choices = s.choices := rfl

/-! ## setAttention -/

@[simp] theorem State.pending_setAttention (a : Attention) : (s.setAttention a).pending = s.pending := rfl
@[simp] theorem State.clock_setAttention (a : Attention) : (s.setAttention a).clock = s.clock := rfl
@[simp] theorem State.resetAsserted_setAttention (a : Attention) : (s.setAttention a).resetAsserted = s.resetAsserted := rfl
@[simp] theorem State.station_setAttention (a : Attention) : (s.setAttention a).station = s.station := rfl
@[simp] theorem State.alert_setAttention (a : Attention) : (s.setAttention a).alert = s.alert := rfl
@[simp] theorem State.ports_setAttention (a : Attention) : (s.setAttention a).ports = s.ports := rfl
@[simp] theorem State.routes_setAttention (a : Attention) : (s.setAttention a).routes = s.routes := rfl
@[simp] theorem State.flows_setAttention (a : Attention) : (s.setAttention a).flows = s.flows := rfl
@[simp] theorem State.sweep_setAttention (a : Attention) : (s.setAttention a).sweep = s.sweep := rfl
@[simp] theorem State.attention_setAttention (a : Attention) : (s.setAttention a).attention = a := rfl
@[simp] theorem State.reporter_setAttention (a : Attention) : (s.setAttention a).reporter = s.reporter := rfl
@[simp] theorem State.capture_setAttention (a : Attention) : (s.setAttention a).capture = s.capture := rfl
@[simp] theorem State.sense_setAttention (a : Attention) : (s.setAttention a).sense = s.sense := rfl
@[simp] theorem State.agent_setAttention (a : Attention) : (s.setAttention a).agent = s.agent := rfl
@[simp] theorem State.raised_setAttention (a : Attention) : (s.setAttention a).raised = s.raised := rfl
@[simp] theorem State.choices_setAttention (a : Attention) : (s.setAttention a).choices = s.choices := rfl

/-! ## setReporter -/

@[simp] theorem State.pending_setReporter (r : Reporter) : (s.setReporter r).pending = s.pending := rfl
@[simp] theorem State.clock_setReporter (r : Reporter) : (s.setReporter r).clock = s.clock := rfl
@[simp] theorem State.resetAsserted_setReporter (r : Reporter) : (s.setReporter r).resetAsserted = s.resetAsserted := rfl
@[simp] theorem State.station_setReporter (r : Reporter) : (s.setReporter r).station = s.station := rfl
@[simp] theorem State.alert_setReporter (r : Reporter) : (s.setReporter r).alert = s.alert := rfl
@[simp] theorem State.ports_setReporter (r : Reporter) : (s.setReporter r).ports = s.ports := rfl
@[simp] theorem State.routes_setReporter (r : Reporter) : (s.setReporter r).routes = s.routes := rfl
@[simp] theorem State.flows_setReporter (r : Reporter) : (s.setReporter r).flows = s.flows := rfl
@[simp] theorem State.sweep_setReporter (r : Reporter) : (s.setReporter r).sweep = s.sweep := rfl
@[simp] theorem State.attention_setReporter (r : Reporter) : (s.setReporter r).attention = s.attention := rfl
@[simp] theorem State.reporter_setReporter (r : Reporter) : (s.setReporter r).reporter = r := rfl
@[simp] theorem State.capture_setReporter (r : Reporter) : (s.setReporter r).capture = s.capture := rfl
@[simp] theorem State.sense_setReporter (r : Reporter) : (s.setReporter r).sense = s.sense := rfl
@[simp] theorem State.agent_setReporter (r : Reporter) : (s.setReporter r).agent = s.agent := rfl
@[simp] theorem State.raised_setReporter (r : Reporter) : (s.setReporter r).raised = s.raised := rfl
@[simp] theorem State.choices_setReporter (r : Reporter) : (s.setReporter r).choices = s.choices := rfl

/-! ## setAgent -/

@[simp] theorem State.pending_setAgent (a : Agent) : (s.setAgent a).pending = s.pending := rfl
@[simp] theorem State.clock_setAgent (a : Agent) : (s.setAgent a).clock = s.clock := rfl
@[simp] theorem State.resetAsserted_setAgent (a : Agent) : (s.setAgent a).resetAsserted = s.resetAsserted := rfl
@[simp] theorem State.station_setAgent (a : Agent) : (s.setAgent a).station = s.station := rfl
@[simp] theorem State.alert_setAgent (a : Agent) : (s.setAgent a).alert = s.alert := rfl
@[simp] theorem State.ports_setAgent (a : Agent) : (s.setAgent a).ports = s.ports := rfl
@[simp] theorem State.routes_setAgent (a : Agent) : (s.setAgent a).routes = s.routes := rfl
@[simp] theorem State.flows_setAgent (a : Agent) : (s.setAgent a).flows = s.flows := rfl
@[simp] theorem State.sweep_setAgent (a : Agent) : (s.setAgent a).sweep = s.sweep := rfl
@[simp] theorem State.attention_setAgent (a : Agent) : (s.setAgent a).attention = s.attention := rfl
@[simp] theorem State.reporter_setAgent (a : Agent) : (s.setAgent a).reporter = s.reporter := rfl
@[simp] theorem State.capture_setAgent (a : Agent) : (s.setAgent a).capture = s.capture := rfl
@[simp] theorem State.sense_setAgent (a : Agent) : (s.setAgent a).sense = s.sense := rfl
@[simp] theorem State.agent_setAgent (a : Agent) : (s.setAgent a).agent = a := rfl
@[simp] theorem State.raised_setAgent (a : Agent) : (s.setAgent a).raised = s.raised := rfl
@[simp] theorem State.choices_setAgent (a : Agent) : (s.setAgent a).choices = s.choices := rfl

/-! ## setSweep -/

@[simp] theorem State.pending_setSweep (w : Option Sweep) : (s.setSweep w).pending = s.pending := rfl
@[simp] theorem State.clock_setSweep (w : Option Sweep) : (s.setSweep w).clock = s.clock := rfl
@[simp] theorem State.resetAsserted_setSweep (w : Option Sweep) : (s.setSweep w).resetAsserted = s.resetAsserted := rfl
@[simp] theorem State.station_setSweep (w : Option Sweep) : (s.setSweep w).station = s.station := rfl
@[simp] theorem State.alert_setSweep (w : Option Sweep) : (s.setSweep w).alert = s.alert := rfl
@[simp] theorem State.ports_setSweep (w : Option Sweep) : (s.setSweep w).ports = s.ports := rfl
@[simp] theorem State.routes_setSweep (w : Option Sweep) : (s.setSweep w).routes = s.routes := rfl
@[simp] theorem State.flows_setSweep (w : Option Sweep) : (s.setSweep w).flows = s.flows := rfl
@[simp] theorem State.sweep_setSweep (w : Option Sweep) : (s.setSweep w).sweep = w := rfl
@[simp] theorem State.attention_setSweep (w : Option Sweep) : (s.setSweep w).attention = s.attention := rfl
@[simp] theorem State.reporter_setSweep (w : Option Sweep) : (s.setSweep w).reporter = s.reporter := rfl
@[simp] theorem State.capture_setSweep (w : Option Sweep) : (s.setSweep w).capture = s.capture := rfl
@[simp] theorem State.sense_setSweep (w : Option Sweep) : (s.setSweep w).sense = s.sense := rfl
@[simp] theorem State.agent_setSweep (w : Option Sweep) : (s.setSweep w).agent = s.agent := rfl
@[simp] theorem State.raised_setSweep (w : Option Sweep) : (s.setSweep w).raised = s.raised := rfl
@[simp] theorem State.choices_setSweep (w : Option Sweep) : (s.setSweep w).choices = s.choices := rfl

/-! ## raise -/

@[simp] theorem State.pending_raise (x : Raised) : (s.raise x).pending = s.pending := rfl
@[simp] theorem State.clock_raise (x : Raised) : (s.raise x).clock = s.clock := rfl
@[simp] theorem State.resetAsserted_raise (x : Raised) : (s.raise x).resetAsserted = s.resetAsserted := rfl
@[simp] theorem State.station_raise (x : Raised) : (s.raise x).station = s.station := rfl
@[simp] theorem State.alert_raise (x : Raised) : (s.raise x).alert = s.alert := rfl
@[simp] theorem State.ports_raise (x : Raised) : (s.raise x).ports = s.ports := rfl
@[simp] theorem State.routes_raise (x : Raised) : (s.raise x).routes = s.routes := rfl
@[simp] theorem State.flows_raise (x : Raised) : (s.raise x).flows = s.flows := rfl
@[simp] theorem State.sweep_raise (x : Raised) : (s.raise x).sweep = s.sweep := rfl
@[simp] theorem State.attention_raise (x : Raised) : (s.raise x).attention = s.attention := rfl
@[simp] theorem State.reporter_raise (x : Raised) : (s.raise x).reporter = s.reporter := rfl
@[simp] theorem State.capture_raise (x : Raised) : (s.raise x).capture = s.capture := rfl
@[simp] theorem State.sense_raise (x : Raised) : (s.raise x).sense = s.sense := rfl
@[simp] theorem State.agent_raise (x : Raised) : (s.raise x).agent = s.agent := rfl
@[simp] theorem State.raised_raise (x : Raised) : (s.raise x).raised = s.raised ++ [x] := rfl
@[simp] theorem State.choices_raise (x : Raised) : (s.raise x).choices = s.choices := rfl

/-! ## refreshAlert -/

@[simp] theorem State.pending_refreshAlert : (s.refreshAlert).pending = s.pending := rfl
@[simp] theorem State.clock_refreshAlert : (s.refreshAlert).clock = s.clock := rfl
@[simp] theorem State.resetAsserted_refreshAlert : (s.refreshAlert).resetAsserted = s.resetAsserted := rfl
@[simp] theorem State.station_refreshAlert : (s.refreshAlert).station = s.station := rfl
@[simp] theorem State.alert_refreshAlert : (s.refreshAlert).alert = (!s.resetAsserted && s.alertCondition) := rfl
@[simp] theorem State.ports_refreshAlert : (s.refreshAlert).ports = s.ports := rfl
@[simp] theorem State.routes_refreshAlert : (s.refreshAlert).routes = s.routes := rfl
@[simp] theorem State.flows_refreshAlert : (s.refreshAlert).flows = s.flows := rfl
@[simp] theorem State.sweep_refreshAlert : (s.refreshAlert).sweep = s.sweep := rfl
@[simp] theorem State.attention_refreshAlert : (s.refreshAlert).attention = s.attention := rfl
@[simp] theorem State.reporter_refreshAlert : (s.refreshAlert).reporter = s.reporter := rfl
@[simp] theorem State.capture_refreshAlert : (s.refreshAlert).capture = s.capture := rfl
@[simp] theorem State.sense_refreshAlert : (s.refreshAlert).sense = s.sense := rfl
@[simp] theorem State.agent_refreshAlert : (s.refreshAlert).agent = s.agent := rfl
@[simp] theorem State.raised_refreshAlert : (s.refreshAlert).raised = s.raised := rfl
@[simp] theorem State.choices_refreshAlert : (s.refreshAlert).choices = s.choices := rfl

/-! ## Reading back -/

@[simp] theorem State.port_setPort_same (p : Port) (x : PortState) : (s.setPort p x).port p = x := by
  cases p <;> rfl

theorem State.port_setPort_ne {p q : Port} (h : q ≠ p) (x : PortState) : (s.setPort p x).port q = s.port q := by
  cases p <;> cases q <;> first | rfl | exact absurd rfl h

theorem State.port_setPort (p q : Port) (x : PortState) :
    (s.setPort p x).port q = if q = p then x else s.port q := by
  cases p <;> cases q <;> rfl

@[simp] theorem State.flow_setFlow_same (i : Fin 64) (x : Option Flow) : (s.setFlow i x).flow i = x := by
  simp [State.flow, State.setFlow]

theorem State.flow_setFlow_ne {i j : Fin 64} (h : j ≠ i) (x : Option Flow) : (s.setFlow i x).flow j = s.flow j := by
  have h' : i.val ≠ j.val := fun e => h (Fin.ext e.symm)
  simp [State.flow, State.setFlow, h']

@[simp] theorem State.ring_setRing_same (k : Fin 8) (x : Option Ring) : (s.setRing k x).ring k = x := by
  simp [State.ring, State.setRing]

theorem State.ring_setRing_ne {k j : Fin 8} (h : j ≠ k) (x : Option Ring) : (s.setRing k x).ring j = s.ring j := by
  have h' : k.val ≠ j.val := fun e => h (Fin.ext e.symm)
  simp [State.ring, State.setRing, h']

@[simp] theorem State.input_setInput_same (i : Fin 4) (x : Sense) : (s.setInput i x).input i = x := by
  simp [State.input, State.setInput]

theorem State.input_setInput_ne {i j : Fin 4} (h : j ≠ i) (x : Sense) : (s.setInput i x).input j = s.input j := by
  have h' : i.val ≠ j.val := fun e => h (Fin.ext e.symm)
  simp [State.input, State.setInput, h']

/-! ## Derived readings that an update leaves alone -/

@[simp] theorem State.time_setAgent (a : Agent) : (s.setAgent a).time = s.time := rfl
@[simp] theorem State.time_setFlow (i : Fin 64) (x : Option Flow) : (s.setFlow i x).time = s.time := rfl
@[simp] theorem State.time_setPort (p : Port) (x : PortState) : (s.setPort p x).time = s.time := rfl
@[simp] theorem State.time_setRing (k : Fin 8) (x : Option Ring) : (s.setRing k x).time = s.time := rfl
@[simp] theorem State.time_setInput (i : Fin 4) (x : Sense) : (s.setInput i x).time = s.time := rfl
@[simp] theorem State.time_setAttention (a : Attention) : (s.setAttention a).time = s.time := rfl
@[simp] theorem State.time_setReporter (r : Reporter) : (s.setReporter r).time = s.time := rfl
@[simp] theorem State.time_raise (x : Raised) : (s.raise x).time = s.time := rfl
@[simp] theorem State.params_setFlow (i : Fin 64) (x : Option Flow) : (s.setFlow i x).params = s.params := rfl
@[simp] theorem State.params_setPort (p : Port) (x : PortState) : (s.setPort p x).params = s.params := rfl
@[simp] theorem State.params_setRing (k : Fin 8) (x : Option Ring) : (s.setRing k x).params = s.params := rfl
@[simp] theorem State.params_setInput (i : Fin 4) (x : Sense) : (s.setInput i x).params = s.params := rfl
@[simp] theorem State.params_setAttention (a : Attention) : (s.setAttention a).params = s.params := rfl
@[simp] theorem State.params_setReporter (r : Reporter) : (s.setReporter r).params = s.params := rfl
@[simp] theorem State.params_raise (x : Raised) : (s.raise x).params = s.params := rfl

end Sys2Proof.Machine
end

