-- ==== Sys2Proof/Laws/Egress.lean ====
section
/-! SUPPORT. An offer to an egress queue, case by case (R84, R87). -/
namespace Sys2Proof.Machine

variable (s : State)

/-- An accepted offer joins its queue, and an IDLE transmitter starts. -/
theorem State.enqueue_accepted {p : Port} {e : QueueEntry} (h : (s.port p).answer e = .accepted) :
    s.enqueue p e = s.setPort p (((s.port p).join e).startNext s.clock) := by
  simp [State.enqueue, h]

/-- A refused offer without the restart mark is counted, and raises PORT/EGRESS_DROP where the queue was full. -/
theorem State.enqueue_refused {p : Port} {e : QueueEntry} {o : Offer} (h : (s.port p).answer e = o)
    (ho : o ≠ .accepted) (hm : e.restartMark = false) :
    s.enqueue p e =
      (if o = .full then (s.setPort p ((s.port p).countRefusal o)).raiseEvent .portEgressDrop (portByte p)
       else s.setPort p ((s.port p).countRefusal o)) := by
  cases o <;> simp_all [State.enqueue]

/-- An offer touches its port and what is raised, nothing else. -/
theorem State.enqueue_frame (p : Port) (e : QueueEntry) :
    ∃ x ys, s.enqueue p e = { s.setPort p x with raised := s.raised ++ ys } := by
  unfold State.enqueue
  split
  · exact ⟨((s.port p).join e).startNext s.clock, [], by simp [State.setPort]⟩
  · next o _ =>
    refine ⟨(s.port p).countRefusal ((s.port p).answer e),
      (if (s.port p).answer e = .full then
        [.attention ⟨.portEgressDrop, portByte p, s.time, none, none⟩] else [])
      ++ (if e.restartMark then [.restart] else []), ?_⟩
    cases ha : (s.port p).answer e <;> cases hm : e.restartMark <;>
      simp [State.raise, State.raiseEvent, State.setPort, State.time]

end Sys2Proof.Machine
end

