-- ==== Sys2Proof/Laws/Frames.lean ====
section
/-! SUPPORT. What each shared operation can touch: everything it leaves alone is said by the record update it comes to. -/
namespace Sys2Proof.Machine

variable (s : State)

/-- The offers of one frame to a set of ports, as they stand among what is raised. -/
def offersTo (set : BitVec 3) (e : QueueEntry) : List Raised :=
  (if portIn set .u then [.offer .u e] else []) ++ (if portIn set .d then [.offer .d e] else [])
  ++ (if portIn set .b then [.offer .b e] else [])

/-- Offers to a set of ports only stand among what is raised. -/
theorem State.offerAll_eq (set : BitVec 3) (e : QueueEntry) :
    s.offerAll set e = { s with raised := s.raised ++ offersTo set e } := by
  unfold State.offerAll offersTo
  simp only [allPorts, List.foldl_cons, List.foldl_nil]
  cases portIn set .u <;> cases portIn set .d <;> cases portIn set .b <;> simp [State.raise]

/-- Forwarded copies only stand among what is raised. -/
theorem State.forwardTo_eq (set : BitVec 3) (x : Frame) :
    s.forwardTo set x = { s with raised := s.raised ++ offersTo set ⟨x.forwarded, .forward, false⟩ } :=
  s.offerAll_eq _ _

/-- A report sent touches the records, the ports and what is raised. -/
theorem State.sendReport_frame (dest : Address) (ids : List Nat) :
    ∃ rs ps ys, s.sendReport dest ids
      = { s with attention := { s.attention with records := rs }, ports := ps, raised := s.raised ++ ys } := by
  unfold State.sendReport
  dsimp only
  split
  · next p _ =>
    obtain ⟨x, ys, h⟩ := State.enqueue_frame (s.mapRecords ids AttentionRecord.sent) p
      ⟨Frame.build .atn dest s.station false 0 s.reporter.tag s.params.genHop
        (atnPayload s.attention.lost (s.attention.records.filter (fun r => ids.contains r.id))), .atn, false⟩
    rw [h]
    simp only [State.offerGenerated, State.raise, State.mapRecords, State.setAttention, State.setPort,
      List.append_assoc]
    exact ⟨_, _, _, rfl⟩
  · exact ⟨_, _, _, rfl⟩

/-- A report begun touches the records, the reporter, the ports and what is raised. -/
theorem State.beginReport_frame (dest : Address) :
    ∃ rs r ps ys, s.beginReport dest = { s with
      attention := { s.attention with records := rs }, reporter := r, ports := ps, raised := s.raised ++ ys } := by
  unfold State.beginReport
  dsimp only
  generalize List.map (fun r : AttentionRecord => r.id) _ = ids
  generalize Reporter.mk _ _ _ _ _ = r
  obtain ⟨rs, ps, ys, h⟩ := State.sendReport_frame (s.setReporter r) dest ids
  exact ⟨rs, r, ps, ys, h⟩

/-- The reporter's look at its conditions touches the records, the reporter, the ports and what is raised. -/
theorem State.pollReporter_frame :
    ∃ rs r ps ys, s.pollReporter = { s with
      attention := { s.attention with records := rs }, reporter := r, ports := ps, raised := s.raised ++ ys } := by
  unfold State.pollReporter
  split
  · exact ⟨s.attention.records, s.reporter, s.ports, [], by simp⟩
  · split
    · exact s.beginReport_frame _
    · exact ⟨s.attention.records, s.reporter, s.ports, [], by simp⟩

/-- The end of a stall touches the same. -/
theorem State.leaveStall_frame :
    ∃ rs r ps ys, s.leaveStall = { s with
      attention := { s.attention with records := rs }, reporter := r, ports := ps, raised := s.raised ++ ys } := by
  unfold State.leaveStall
  split
  · obtain ⟨rs, r, ps, ys, h⟩ := s.abandonReport.pollReporter_frame
    exact ⟨rs, r, ps, ys, h⟩
  · exact ⟨s.attention.records, s.reporter, s.ports, [], by simp⟩

/-- An event taken by the attention unit touches that unit, the reporter, the ports and what is raised. -/
theorem State.takeAttention_frame (e : AttentionEvent) :
    ∃ a r ps ys, (s.takeAttention e).2 = { s with
      attention := a, reporter := r, ports := ps, raised := s.raised ++ ys } := by
  obtain ⟨rs, r, ps, ys, h⟩ :=
    ((s.raise (.announce e.cause e.object)).setAttention (s.attention.take e).2).pollReporter_frame
  have : (s.takeAttention e).2
      = ((s.raise (.announce e.cause e.object)).setAttention (s.attention.take e).2).pollReporter := rfl
  rw [this, h]
  simp only [State.raise, State.setAttention, List.append_assoc]
  exact ⟨_, _, _, _, rfl⟩

/-- A notice at one ring touches the capture unit and what is raised. -/
theorem State.record_frame (n : Notice) (k : Fin 8) :
    ∃ c ys, s.record n k = { s with capture := c, raised := s.raised ++ ys } := by
  unfold State.record
  split
  · exact ⟨s.capture, [], by simp⟩
  · split
    · unfold State.putRing
      dsimp only
      split
      · exact ⟨_, [_], rfl⟩
      · exact ⟨_, [], by simp only [List.append_nil]; rfl⟩
    · exact ⟨s.capture, [], by simp⟩

/-- An announcement at one ring touches the capture unit and what is raised. -/
theorem State.triggerBy_frame (c : Cause) (object : Byte) (k : Fin 8) :
    ∃ x ys, s.triggerBy c object k = { s with capture := x, raised := s.raised ++ ys } := by
  unfold State.triggerBy
  split
  · exact ⟨s.capture, [], by simp⟩
  · split
    · unfold State.putRing
      dsimp only
      split
      · exact ⟨_, [_], rfl⟩
      · exact ⟨_, [], by simp only [List.append_nil]; rfl⟩
    · exact ⟨s.capture, [], by simp⟩

theorem State.foldl_capture_frame {α : Type} (f : State → α → State)
    (h : ∀ t a, ∃ c ys, f t a = { t with capture := c, raised := t.raised ++ ys }) (l : List α) :
    ∀ s : State, ∃ c ys, l.foldl f s = { s with capture := c, raised := s.raised ++ ys } := by
  induction l with
  | nil => exact fun s => ⟨s.capture, [], by simp⟩
  | cons a rest ih =>
    intro s
    obtain ⟨c1, y1, h1⟩ := h s a
    obtain ⟨c2, y2, h2⟩ := ih (f s a)
    refine ⟨c2, y1 ++ y2, ?_⟩
    rw [List.foldl_cons, h2, h1]
    simp only [List.append_assoc]

/-- A notice touches the capture unit and what is raised. -/
theorem State.takeNotice_frame (n : Notice) :
    ∃ c ys, s.takeNotice n = { s with capture := c, raised := s.raised ++ ys } :=
  State.foldl_capture_frame _ (fun t k => t.record_frame n k) _ s

/-- An announcement touches the capture unit and what is raised. -/
theorem State.takeAnnounce_frame (c : Cause) (object : Byte) :
    ∃ x ys, s.takeAnnounce c object = { s with capture := x, raised := s.raised ++ ys } :=
  State.foldl_capture_frame _ (fun t k => t.triggerBy_frame c object k) _ s

/-- A response built touches the cache, the ports and what is raised. -/
theorem State.respond_frame (r : Request) (st : Status) (results : List Byte) (mark : Bool) :
    ∃ c ps ys, s.respond r st results mark
      = { s with agent := { s.agent with cache := c }, ports := ps, raised := s.raised ++ ys } := by
  unfold State.respond
  dsimp only
  generalize cacheWrite _ s.agent.cache = c
  obtain ⟨x, ys, h⟩ := State.enqueue_frame (s.setCache c) r.ingress
    ⟨s.mrsFrame r (r.code :: st.code :: results), .mrs, mark⟩
  rw [h]
  simp only [State.offerGenerated, State.raise, State.setPort, State.setCache, State.setAgent, List.append_assoc]
  exact ⟨_, _, _, rfl⟩

/-- A cached response sent again touches the cache and what is raised. -/
theorem State.resend_frame (r : Request) (e : CacheEntry) :
    ∃ ys, s.resend r e
      = { s with agent := { s.agent with cache := cacheUse e s.agent.cache }, raised := s.raised ++ ys } := by
  unfold State.resend
  simp only [State.offerGenerated, State.raise, State.setCache, State.setAgent, List.append_assoc]
  exact ⟨_, rfl⟩

/-- The admission of a request touches the agent's queue and cache and what is raised. -/
theorem State.admission_frame (r : Request) (report : Bool) :
    ∃ q c ys, (s.admission r report).2
      = { s with agent := { s.agent with queue := q, cache := c }, raised := s.raised ++ ys } := by
  unfold State.admission
  split
  · next e _ =>
    obtain ⟨ys, h⟩ := s.resend_frame r e
    exact ⟨s.agent.queue, cacheUse e s.agent.cache, ys, h⟩
  · split
    · exact ⟨s.agent.queue, s.agent.cache, [], by simp⟩
    · split
      · exact ⟨s.agent.queue ++ [r], s.agent.cache, [], by simp [State.setAgent]⟩
      · cases report
        · exact ⟨s.agent.queue, s.agent.cache, [], by simp⟩
        · exact ⟨s.agent.queue, s.agent.cache, [_], rfl⟩

/-- What follows an admission while something is raised only stands among what is raised. -/
theorem State.afterRequest_eq (requester : Address) (h : s.raised ≠ []) :
    s.afterRequest requester = { s with
      raised := s.raised
        ++ (if s.reporter.state = .stalled ∧ s.params.reportAddr = some requester then [.stallExit requester] else [])
        ++ (if s.agent.service = .idle ∧ s.agent.queue ≠ [] then [.take] else []) } := by
  have key : ∀ t : State, t.raised ≠ [] → t.takeFreely
      = { t with raised := t.raised ++ if t.agent.service = .idle ∧ t.agent.queue ≠ [] then [.take] else [] } := by
    intro t ht
    unfold State.takeFreely
    split
    · next r rest hs hq => simp [hs, hq, ht, State.raise]
    · next hne =>
      have : ¬(t.agent.service = .idle ∧ t.agent.queue ≠ []) := by
        rintro ⟨hs, hq⟩
        cases hh : t.agent.queue with
        | nil => exact hq hh
        | cons r rest => exact hne r rest hs hh
      simp [this]
  unfold State.afterRequest State.tellReporter
  split
  · rw [key _ (by simp [State.raise])]
    rfl
  · rw [key s h]
    simp

/-- Attention events of a flow only stand among what is raised, in their order (R66). -/
theorem State.raiseFlows_eq (i : Fin 64) (quiet : Bool) (cs : List Cause) :
    ∀ s : State, s.raiseFlows i quiet cs
      = { s with raised := s.raised ++ cs.map (fun c => .attention ⟨c, byte i.val, s.time, some quiet, none⟩) } := by
  induction cs with
  | nil => intro s; simp [State.raiseFlows]
  | cons c rest ih =>
    intro s
    have : s.raiseFlows i quiet (c :: rest) = (s.raiseFlow i quiet c).raiseFlows i quiet rest := rfl
    rw [this, ih]
    simp [State.raiseFlow, State.raise, State.time]

/-- Supervision of an arrival touches its entry and what is raised. -/
theorem State.supervise_frame (i : Fin 64) (f : Flow) (p : Port) (x : Frame) :
    ∃ g ys, (s.supervise i f p x).2 = { s.setFlow i (some g) with raised := s.raised ++ ys } := by
  unfold State.supervise
  dsimp only
  generalize Flow.onArrival s.time (s.gateOpen f.defn) p x f = r
  split
  · rw [State.forwardTo_eq, State.raiseFlows_eq]
    simp only [State.setFlow, List.append_assoc]
    exact ⟨r.flow, _, rfl⟩
  · rw [State.raiseFlows_eq]
    exact ⟨r.flow, _, rfl⟩

end Sys2Proof.Machine
end

