-- ==== Sys2Proof/Laws/Settle.lean ====
section
/-! SUPPORT. What taking the raised things comes to in the cases the proofs meet first. -/
namespace Sys2Proof.Machine

variable (s : State)

theorem State.prune_nil (h : s.raised = []) : s.prune = s := by
  simp [State.prune, h]
  rw [← h]

theorem State.drain_nil (h : s.raised = []) (n : Nat) : s.drain n = s := by
  cases n with
  | zero => rfl
  | succ n => simp [State.drain, s.prune_nil h, h]

/-- With nothing raised, taking everything is nothing. -/
theorem State.takeAll_nil (h : s.raised = []) : s.takeAll = s := s.drain_nil h _

/-- With nothing raised, the end of a command only brings ALERT up to date (R107). -/
theorem State.settle_nil (h : s.raised = []) : s.settle = s.refreshAlert := by
  rw [State.settle, s.takeAll_nil h]

/-- Something raised that can have no effect is dropped. -/
theorem State.prune_cons_dead {x : Raised} (h : s.raised = [x]) (hx : s.live x = false) :
    s.prune = { s with raised := [] } := by
  simp [State.prune, h, hx]

/-- While RESET is asserted a command's body does not happen. -/
theorem State.unlessReset_held {body : State → State} (h : s.resetAsserted = true) : s.unlessReset body = s := by
  simp [State.unlessReset, h]

theorem State.unlessReset_free {body : State → State} (h : s.resetAsserted = false) :
    s.unlessReset body = body s := by
  simp [State.unlessReset, h]

/-- A choice with one outcome is no choice. -/
theorem State.choose_one {n : Nat} (h : n ≤ 1) : s.choose n = (0, s) := by
  simp [State.choose, h]

/-- What may come first by the FLOW order is among what is raised. -/
theorem mem_of_mem_eligible {x : Raised} : ∀ {l : List Raised}, x ∈ eligible l → x ∈ l
  | [], h => h
  | y :: rest, h => by
    unfold eligible at h
    split at h
    · rcases List.mem_cons.mp h with rfl | h
      · exact List.mem_cons_self
      · exact List.mem_cons_of_mem _ (List.mem_filter.mp h).1
    · rcases List.mem_cons.mp h with rfl | h
      · exact List.mem_cons_self
      · exact List.mem_cons_of_mem _ (mem_of_mem_eligible h)

/-- Everything that is no FLOW event may come first by the FLOW order. -/
theorem mem_eligible_of_not_flow {x : Raised} (hx : x.isFlow = false) : ∀ {l : List Raised}, x ∈ l → x ∈ eligible l
  | y :: rest, h => by
    unfold eligible
    split
    · next hy =>
      rcases List.mem_cons.mp h with rfl | h
      · exact List.mem_cons_self
      · exact List.mem_cons_of_mem _ (List.mem_filter.mpr ⟨h, by simp [hx]⟩)
    · rcases List.mem_cons.mp h with rfl | h
      · exact List.mem_cons_self
      · exact List.mem_cons_of_mem _ (mem_eligible_of_not_flow hx h)

theorem eligible_ne_nil {l : List Raised} (h : l ≠ []) : eligible l ≠ [] := by
  cases l with
  | nil => exact absurd rfl h
  | cons y rest => unfold eligible; split <;> simp

/-- What may be taken first is among what is raised. -/
theorem State.mem_raised_of_mem_candidates {x : Raised} (h : x ∈ s.candidates) : x ∈ s.raised := by
  have key : ∀ {y}, y ∈ (if s.takesNext .ackAttention then (eligible s.raised).filter (fun x => !x.isStallExit)
      else eligible s.raised) → y ∈ s.raised := by
    intro y hy
    split at hy
    · exact mem_of_mem_eligible (List.mem_filter.mp hy).1
    · exact mem_of_mem_eligible hy
  unfold State.candidates at h
  dsimp only at h
  split at h
  · next z hz =>
    split at h
    · rw [List.mem_singleton.mp h]
      exact key (List.mem_of_find?_eq_some hz)
    · exact key h
  · exact key h

/-- Where something is raised, something may be taken first. -/
theorem State.candidates_ne_nil (h : s.raised ≠ []) : s.candidates ≠ [] := by
  have key : (if s.takesNext .ackAttention then (eligible s.raised).filter (fun x => !x.isStallExit)
      else eligible s.raised) ≠ [] := by
    split
    · next ht =>
      have hm : Raised.take ∈ s.raised := by
        have := (Bool.and_eq_true_iff.mp ht).1
        simpa using this
      exact List.ne_nil_of_mem (List.mem_filter.mpr ⟨mem_eligible_of_not_flow rfl hm, rfl⟩)
    · exact eligible_ne_nil h
  unfold State.candidates
  dsimp only
  split
  · split
    · simp
    · exact key
  · exact key

end Sys2Proof.Machine
end

