-- ==== Sys2Proof/Laws/Keeps.lean ====
section
/-! SUPPORT. Taking what is raised keeps every property that the unit concerned keeps: the proofs of the invariants cite
these instead of unfolding the loop. -/
namespace Sys2Proof.Machine

/-- A property of the state that neither what is raised nor the free choices enter, and that each taking keeps. -/
structure State.Kept (P : State → Prop) : Prop where
  raised : ∀ s xs, P s → P { s with raised := xs }
  choices : ∀ s n, P s → P { s with choices := n }
  taken : ∀ s x, P s → P (s.takeRaised x)

variable {P : State → Prop}

theorem State.Kept.choose (h : State.Kept P) {s : State} (hs : P s) (n : Nat) : P (s.choose n).2 := by
  unfold State.choose
  split
  · exact hs
  · exact h.choices s _ hs

theorem State.Kept.takeOne (h : State.Kept P) {s : State} (hs : P s) : P s.takeOne := by
  unfold State.takeOne
  dsimp only
  split
  · exact h.choose hs _
  · exact h.taken _ _ (h.raised _ _ (h.choose hs _))

theorem State.Kept.drain (h : State.Kept P) (n : Nat) : ∀ s : State, P s → P (s.drain n) := by
  induction n with
  | zero => exact fun s hs => hs
  | succ n ih =>
    intro s hs
    have hp : P s.prune := h.raised s _ hs
    unfold State.drain
    dsimp only
    split
    · exact hp
    · exact ih _ (h.takeOne hp)

theorem State.Kept.takeAll (h : State.Kept P) {s : State} (hs : P s) : P s.takeAll := h.drain _ s hs

/-- A kept property that ALERT does not enter holds at the end of a command. -/
theorem State.Kept.settle (h : State.Kept P) (ha : ∀ s b, P s → P { s with alert := b }) {s : State} (hs : P s) :
    P s.settle := ha _ _ (h.takeAll hs)

end Sys2Proof.Machine
end

