-- ==== Sys2Proof/Laws/Take.lean ====
section
/-! SUPPORT. A management command that is taken at once, as one equation; and what a reply comes to. -/
namespace Sys2Proof.Machine

variable {s : State} {c : Instr} {code : Byte} {q : Req}

/-- Every management row is its request under its command code. -/
theorem exec_asRequest (h : asRequest c = some (code, q)) : exec c s = s.command code q := by
  cases c <;> simp [asRequest] at h <;> obtain ⟨rfl, rfl⟩ := h <;> rfl

theorem State.setAgent_self (s : State) : s.setAgent s.agent = s := rfl

/-- A request that reaches a ready agent is in service at once. -/
theorem State.request_of_ready (h : s.ready code q) : s.request code q = s.take (requestOf code q) := by
  obtain ⟨⟨_, haddr, hr⟩, hk, hidle, hq, hc, hf⟩ := h
  have hk' : ¬(s.reporter.state = .stalled ∧ s.params.reportAddr = some q.requester) := by
    rcases hk with hk | hk
    · exact fun hh => hk hh.1
    · exact fun hh => hk hh.2
  have e1 : s.admission (requestOf code q) true
      = (.local, s.setAgent { s.agent with queue := [requestOf code q] }) := by
    simp [State.admission, hc, hf, hq, requestCapacity]
  have e2 : { s.agent with queue := [] } = s.agent := by
    cases hs : s.agent
    simp_all
  have e3 : (s.setAgent { s.agent with queue := [requestOf code q] }).setAgent { s.agent with queue := [] } = s := by
    rw [e2]
    rfl
  have e4 : (s.setAgent { s.agent with queue := [requestOf code q] }).tellReporter q.requester
      = s.setAgent { s.agent with queue := [requestOf code q] } := by
    unfold State.tellReporter
    exact if_neg hk'
  have e5 : (s.setAgent { s.agent with queue := [requestOf code q] }).raised.isEmpty = true := by
    simp [hr]
  have hidle' : (s.setAgent { s.agent with queue := [requestOf code q] }).agent.service = .idle := hidle
  unfold State.request
  rw [if_pos haddr]
  simp only [e1]
  unfold State.afterRequest
  rw [e4]
  unfold State.takeFreely
  split
  · rw [if_pos e5]
    simp only [State.takeNext, State.agent_setAgent, hidle]
    rw [← hidle, e3]
  · next hne => exact absurd rfl (hne _ [] hidle')

/-- A management command that reaches a ready agent: the take, and what it raised (R18, R156). -/
theorem exec_of_ready (hc : asRequest c = some (code, q)) (h : s.ready code q) :
    exec c s = .next ((s.take (requestOf code q)).settle) := by
  rw [exec_asRequest hc, State.command, State.unlessReset_free s h.1.1, State.request_of_ready h]

/-- The stall exit does nothing to a reporter that is not STALLED, or for a station that is not REPORT_ADDR. -/
theorem State.stallExit_of_keepsStall (h : s.keepsStall q) : s.stallExit q.requester = s := by
  unfold State.stallExit
  split
  · rcases h with h | h
    · simp [State.leaveStall, h]
    · exact absurd ‹_› h
  · rfl

/-- A management command that reaches a ready agent and whose execution answers `reply` and leaves `t`. -/
theorem exec_of_run {t : State} {reply : Reply} (hc : asRequest c = some (code, q)) (h : s.ready code q)
    (hrun : run (requestOf code q) s = (reply, t)) :
    exec c s = .next (t.served code q reply) := by
  rw [exec_of_ready hc h]
  simp [State.take, hrun, State.served]

/-- A refused command leaves everything but the agent's service as it was (R157). -/
theorem exec_of_refused {st : Status} {res : List Byte} (hc : asRequest c = some (code, q)) (h : s.ready code q)
    (hrun : run (requestOf code q) s = (.answer st res, s)) :
    exec c s = .next (s.served code q (.answer st res)) :=
  exec_of_run hc h hrun

end Sys2Proof.Machine
end

