-- ==== Sys2Proof/WellFormed.lean ====
section
/-! DEFINITION. When a command is one the line can carry: what the check of a command's operands refuses. -/
namespace Sys2Proof

/-- The command codes of section 11.3. -/
def commandCodes : List Byte :=
  [0x01, 0x02, 0x03, 0x04, 0x05, 0x06, 0x10, 0x11, 0x12, 0x13, 0x20, 0x21, 0x22, 0x23, 0x24, 0x25, 0x26,
   0x30, 0x31, 0x32, 0x33, 0x34, 0x40, 0x41, 0x42, 0x43, 0x44, 0x45, 0x50, 0x51]

/-- A request a frame can carry: SRC is 0 to 126 (R6), and at most 59 operand bytes stand behind the command
code, LEN being at most 60 (R1, R174). -/
def Req.wellFormed (r : Req) : Bool := decide (r.requester ≠ 127) && decide (r.operands.length ≤ 59)

/-- The command is well formed. The events carry nothing to check: a reception may have any bytes (R6), and
ports, entries and inputs cannot be out of range. -/
def Instr.wellFormed : Instr → Bool
  | .resetAsserted => true
  | .coldReset _ => true
  | .signalValid _ => true
  | .qualificationExpiry _ => true
  | .signalLost _ => true
  | .arrival _ _ => true
  | .transmissionComplete _ => true
  | .deadlineExpiry _ => true
  | .sweepVisit => true
  | .senseSample _ _ => true
  | .leaseExpiry => true
  | .ackTimerExpiry => true
  | .requestCompletion => true
  | .discover r => r.wellFormed
  | .claim r => r.wellFormed
  | .release r => r.wellFormed
  | .readParam r => r.wellFormed
  | .writeParam r => r.wellFormed
  | .restart r => r.wellFormed
  | .portControl r => r.wellFormed
  | .readCounters r => r.wellFormed
  | .setRoute r => r.wellFormed
  | .readRoute r => r.wellFormed
  | .loadFlow r => r.wellFormed
  | .retimeFlow r => r.wellFormed
  | .armFlow r => r.wellFormed
  | .disarmFlow r => r.wellFormed
  | .dropFlow r => r.wellFormed
  | .readFlow r => r.wellFormed
  | .clearTable r => r.wellFormed
  | .readAttention r => r.wellFormed
  | .ackAttention r => r.wellFormed
  | .clearAttention r => r.wellFormed
  | .setCause r => r.wellFormed
  | .forceAttention r => r.wellFormed
  | .defineRing r => r.wellFormed
  | .startRing r => r.wellFormed
  | .stopRing r => r.wellFormed
  | .triggerRing r => r.wellFormed
  | .readRing r => r.wellFormed
  | .discardRing r => r.wellFormed
  | .senseConfig r => r.wellFormed
  | .readSense r => r.wellFormed
  | .unknownCommand code r => !commandCodes.contains code && r.wellFormed
  | .receptionStart _ => true

end Sys2Proof
end

