-- ==== Sys2Proof/Tests/Slice0.lean ====
section
/-! SUPPORT. Tests: the checks of well-formedness, a step of every command on small states from the spec's examples, and for
the hypotheses of every statement states that meet them. -/
namespace Sys2Proof.Tests

open Sys2Proof.Machine

set_option Elab.async false

/-! ## Helpers -/

/-- The state a command leaves. -/
def after (c : Instr) (s : State) : State :=
  match exec c s with
  | .next t => t
  | _ => s

/-- Status and results of the request in service. -/
def answer (s : State) : Option (Byte × List Byte) :=
  match s.agent.service with
  | .serving _ _ (.answer st res) => some (st.code, res)
  | _ => none

/-- A request of station 5, and one of station 6. -/
def req (operands : List Byte) : Req := ⟨5, 9, .u, operands⟩

def other (operands : List Byte) : Req := ⟨6, 9, .u, operands⟩

/-- Module 20, claimed by station 5, its agent IDLE. -/
def mgr : State :=
  { State.reset with
    station := 20
    agent := { Agent.reset with holder := some 5, lease := some 2000000 } }

def onlinePort : PortState := { PortState.reset with line := .online }

/-- The three ports ONLINE. -/
def online (s : State) : State := { s with ports := ⟨onlinePort, onlinePort, onlinePort⟩ }

def atTime (t : Time) (s : State) : State := { s with clock := ⟨t, 0⟩ }

/-- A frame on the line. -/
def frame (kind : Kind) (src dst : Address) (ch hop : BitVec 4) (seq : Byte) (payload : List Byte) : Frame :=
  Frame.build kind dst src false ch seq hop payload

/-- The definition of entry 9 in the example of section 4.8. -/
def defn9 : FlowDef where
  src := 1
  dst := 33
  ch := 2
  ingress := .u
  egress := 0b010
  period := 200
  early := 20
  late := 50
  lenMin := 0
  lenMax := 60
  seqPolicy := .check
  gap := 0
  earlyAction := .pass
  missPolicy := .hold
  subLimit := 1
  lossThreshold := 2
  recovery := 1
  gate := none
  gateLevel := .asserted
  quiet := false

/-- Entry 9 as its frame SEQ 7 left it. -/
def flow9 : Flow where
  defn := defn9
  state := .locked
  schedule := some ⟨5002000, 5002500⟩
  lastSeq := some 7
  misses := 0
  good := 0
  subs := 0
  holdSlot := some 0
  holdContent := some [0xAB]
  counters := .zero

/-- The module with entry 9 in some state. -/
def withFlow (f : Flow) (s : State) : State := s.setFlow 9 (some f)

/-- A row of the tables of chapter 4. -/
structure Row where
  state : FlowState
  misses : Nat
  subs : Nat
  schedule : Option Schedule
  lastSeq : Option Byte
  deriving DecidableEq, Repr

def row (s : State) (i : Fin 64) : Option Row :=
  (s.flow i).map (fun f => ⟨f.state, f.misses, f.subs, f.schedule, f.lastSeq⟩)

/-- Id, cause, object, rank and count of the records on the list. -/
def list (s : State) : List (Nat × Cause × Byte × Nat × Nat) :=
  s.attention.records.map (fun r => (r.id, r.cause, r.object, r.rank, r.count))

/-- Kind, SEQ, HOP and payload of the frame in transmission at a port, and when it ends. -/
def sending (s : State) (p : Port) : Option (Kind × Byte × BitVec 4 × List Byte × Moment) :=
  match (s.port p).transmitter with
  | .idle => none
  | .sending e ends => some (e.frame.kind, e.frame.seq, e.frame.hop, e.frame.payload, ends)

/-! ## Well-formedness, codes and FCS -/

theorem test_broadcast_requester_refused : (Instr.claim ⟨127, 0, .u, []⟩).wellFormed = false := by decide

theorem test_long_request_refused : (Instr.loadFlow (req (List.replicate 60 0))).wellFormed = false := by decide

theorem test_known_code_is_not_unknown : (Instr.unknownCommand 0x51 (req [])).wellFormed = false := by decide

theorem test_longest_request_accepted : (Instr.loadFlow (req (List.replicate 59 0))).wellFormed = true := by decide

theorem test_command_codes : commandCodes = Command.all.map Command.code := by decide

/-- The check value of section 1.3. -/
theorem test_fcs_check_value :
    crc16 [0x31, 0x32, 0x33, 0x34, 0x35, 0x36, 0x37, 0x38, 0x39] = 0x29B1 := by decide +kernel

/-- The request of the example of section 11.6. -/
theorem test_arm_flow_frame_bytes :
    ((frame .mgt 1 20 0 15 41 [0x22, 9]).bytes).take 8 = [0x28, 0x02, 0x40, 0x29, 0x0F, 0x02, 0x22, 0x09] := by
  decide +kernel

theorem test_no_word_spells_a_command : decodeTableWord 8 0 = none := rfl

/-! ## Reset and line events -/

theorem test_reset_asserted : after .resetAsserted { mgr with alert := true } =
    { mgr with resetAsserted := true } := by decide +kernel

theorem test_cold_reset : after (.coldReset 20) { mgr with resetAsserted := true } =
    { State.reset with station := 20 } := by decide +kernel

theorem test_signal_valid :
    ((after (.signalValid .d) (atTime 7 mgr)).port .d).qualification = some 107 := by decide +kernel

theorem test_qualification_expiry :
    let s := after (.qualificationExpiry .d) (atTime 7 (mgr.setPort .d { PortState.reset with qualification := some 107 }))
    (s.port .d).line = .online ∧ s.time = 107 ∧ list s = [(1, .portOnline, 1, 5, 1)] := by decide +kernel

theorem test_reception_start : ((after (.receptionStart .b) (online mgr)).port .b).receiving = true := by decide +kernel

/-- A frame of origin ATN for the port tests, as in the example of section 5.5. -/
def entryA (n : Nat) : QueueEntry := ⟨frame .atn 20 1 0 15 0 (List.replicate n 0), .atn, false⟩

def entryS (n : Nat) : QueueEntry := ⟨frame .sub 1 33 2 15 0 (List.replicate n 0), .sub, false⟩

def entryF (n : Nat) : QueueEntry := ⟨frame .acy 1 33 2 14 0 (List.replicate n 0), .forward, false⟩

/-- The last line of the example of section 5.5: M1 aborted, A2 flushed. -/
theorem test_signal_lost :
    let s := after (.signalLost .b) (mgr.setPort .b { onlinePort with
      admin := .blocked, urgent := [entryA 28], transmitter := .sending (entryA 10) ⟨72, 0⟩ })
    (s.port .b).line = .offline ∧ (s.port .b).aborted = 1 ∧ (s.port .b).offline = 1 ∧ (s.port .b).urgent = []
    ∧ list s = [(1, .portOffline, 2, 1, 1)] := by decide +kernel

/-- The example of section 5.7: F1 of LEN 60 completes at 57.6 µs and S of LEN 12 starts, until 76.8 µs. -/
theorem test_transmission_complete :
    let s := after (.transmissionComplete .d) (mgr.setPort .d { onlinePort with
      urgent := [entryS 12, entryA 20], normal := [entryF 32], transmitter := .sending (entryF 60) ⟨57, 3⟩ })
    (s.port .d).transmitter = .sending (entryS 12) ⟨76, 4⟩ ∧ (s.port .d).transmitted = 1
    ∧ (s.port .d).urgent = [entryA 20] ∧ (s.port .d).normal = [entryF 32] := by decide +kernel

/-! ## Arrivals -/

/-- Arrival 3 of the example of chapter 2. -/
theorem test_arrival_routed_to_branch :
    let s := after (.arrival .d (frame .acy 31 53 0 15 0 []).bytes)
      ({ online mgr with routes := routesSet 50 55 .b mgr.routes } : State)
    sending s .b = some (.acy, 0, 14, [], ⟨9, 3⟩) ∧ (s.port .d).verdicts[0] = 1 := by decide +kernel

/-- The example of section 4.8, the arrival taken first. -/
theorem test_arrival_at_its_deadline :
    let s := after (.arrival .u (frame .cyc 1 33 2 15 8 [0xCD]).bytes) (atTime 5002500 (withFlow flow9 (online mgr)))
    row s 9 = some ⟨.locked, 0, 0, some ⟨5004500, 5005000⟩, some 8⟩
    ∧ sending s .d = some (.cyc, 8, 14, [0xCD], ⟨5002510, 2⟩) := by decide +kernel

/-! ## Timers -/

/-- The same example, the expiry taken first. -/
theorem test_deadline_expiry_substitutes :
    let s := after (.deadlineExpiry 9) (atTime 5002500 (withFlow flow9 (online mgr)))
    row s 9 = some ⟨.overdue, 1, 1, some ⟨5004000, 5004500⟩, some 7⟩
    ∧ list s = [(1, .flowOverdue, 9, 2, 1)]
    ∧ sending s .d = some (.sub, 8, 15, [0xAB], ⟨5002510, 2⟩) := by decide +kernel

/-- The example of section 4.9: the expiry at 4 200 loses the flow and sends the cut frame SEQ 104. -/
def flow5 : Flow :=
  { flow9 with
    defn := { defn9 with missPolicy := .holdThenCut, lossThreshold := 4, subLimit := 2, recovery := 2 }
    state := .overdue, misses := 3, subs := 2, lastSeq := some 100, schedule := some ⟨4000, 4200⟩ }

theorem test_deadline_expiry_loses :
    let s := after (.deadlineExpiry 9) (atTime 4100 (withFlow flow5 (online mgr)))
    row s 9 = some ⟨.lost, 4, 2, none, some 100⟩ ∧ sending s .d = some (.sub, 104, 15, [], ⟨4209, 3⟩)
    ∧ list s = [(1, .flowLost, 9, 0, 1)] ∧ s.alert = true := by decide +kernel

/-- A sweep that has removed three entries when it visits entry 63, as in the example of section 3.8. -/
def sweeping (next : Fin 64) (removed : Nat) (s : State) : State :=
  { s with sweep := some ⟨100, next, removed, requestOf 0x26 ⟨7, 3, .u, []⟩⟩ }

theorem test_sweep_visit_last :
    let s := after .sweepVisit (sweeping 63 3 (online mgr))
    s.sweep = none ∧ sending s .u = some (.mrs, 3, 15, [0x26, 0, 3], ⟨240, 0⟩) ∧ s.time = 228 := by decide +kernel

theorem test_sweep_visit_entry :
    let s := after .sweepVisit (sweeping 9 0 (withFlow flow9 mgr))
    s.flow 9 = none ∧ s.sweep.map (fun w => (w.next, w.removed)) = some (10, 1) ∧ s.time = 120 := by decide +kernel

/-- SENSE2 in the example of chapter 9. -/
def guard : Sense :=
  { Sense.reset with
    polarity := .activeLow, debounced := .asserted, debounce := 30, edges := .both, nextSample := 1010, settled := true }

theorem test_sense_sample_starts_qualification :
    ((after (.senseSample 2 .high) (mgr.setInput 2 guard)).input 2).qualification
      = some ⟨.deasserted, 1310⟩ := by decide +kernel

theorem test_sense_sample_completes :
    let s := after (.senseSample 2 .high) (mgr.setInput 2 { guard with
      level := .high, nextSample := 1450, qualification := some ⟨.deasserted, 1450⟩ })
    (s.input 2).debounced = .deasserted ∧ list s = [(1, .senseDeasserted, 2, 3, 1)] := by decide +kernel

theorem test_lease_expiry :
    let s := after .leaseExpiry mgr
    s.agent.holder = none ∧ s.time = 2000000 ∧ list s = [(1, .mgmtClaimExpired, 5, 5, 1)] := by decide +kernel

/-- A record of FLOW/OVERDUE of flow 7 that has been reported under tag 13, as in the example of chapter 7. -/
def record80 : AttentionRecord := ⟨80, .flowOverdue, 7, 2, 2, some 1, 0, 40000, .unreported⟩

def waiting (retries : Nat) (s : State) : State :=
  { s with
    attention := { s.attention with records := [record80] }
    reporter := ⟨.waitAck, 13, [⟨80, false⟩], retries, some 61000⟩
    agent := { s.agent with params := { s.agent.params with reportAddr := some 1 } } }

theorem test_ack_timer_resends :
    let s := after .ackTimerExpiry (waiting 0 (online mgr))
    s.reporter = ⟨.waitAck, 13, [⟨80, false⟩], 1, some 111000⟩
    ∧ s.attention.records = [{ record80 with state := .reported, reportedCount := some 2 }]
    ∧ sending s .u = some (.atn, 13, 15, [0, 0, 0, 80, 0x11, 7, 2, 2, 0, 0, 0x9C, 0x40], ⟨61019, 1⟩) := by decide +kernel

def stalled : State := after .ackTimerExpiry (waiting 5 mgr)

theorem test_ack_timer_stalls :
    let s := after .ackTimerExpiry (waiting 5 mgr)
    s.reporter.state = .stalled ∧ s.alert = true ∧ s.attention.records = [record80] := by decide +kernel

/-- The response of the example of section 11.6. -/
theorem test_request_completion :
    let s := after .requestCompletion ((online mgr).setAgent { mgr.agent with
      service := .serving (requestOf 0x22 ⟨1, 41, .u, [9]⟩) 20 (.answer .ok [9, 1]) })
    sending s .u = some (.mrs, 41, 15, [0x22, 0, 9, 1], ⟨32, 4⟩) ∧ s.agent.service = .idle
    ∧ s.agent.cache = [⟨1, 41, 0x22, [0x22, 0, 9, 1]⟩] := by decide +kernel

/-- The list of the example of section 6.7, at its last event with T = 0. -/
def listed (s : State) : State :=
  { s with attention := { s.attention with
    records := [⟨43, .flowLost, 12, 0, 1, none, 2000, 2000, .unreported⟩,
      ⟨41, .flowOverdue, 12, 2, 2, none, 0, 15000, .unreported⟩,
      ⟨44, .flowRecovered, 12, 4, 1, none, 9000, 9000, .unreported⟩,
      ⟨42, .portOnline, 2, 5, 1, none, 300, 300, .unreported⟩]
    nextId := 45 } }

/-- The list of `listed` in a module that reports to station 1. -/
def reporting : State :=
  (listed mgr).setAgent { mgr.agent with params := { mgr.agent.params with reportAddr := some 1 } }

/-- An expiry that sends a substitute, in a module that reports: the offer and the attention event may each come first. -/
theorem test_offer_and_report_in_either_order :
    let s := (withFlow flow9 (online reporting)).expire 9
    (s.prune.candidates.map Raised.isOffer) = [false, true] := by decide +kernel

/-! ## Management commands -/

theorem test_discover :
    (answer (after (.discover (req [])) mgr)).map (fun x => (x.1, x.2.take 3, x.2.drop 4))
      = some (0, [0x52, 0x03, 0x16], [20, 5, 64, 16, 8, 4, 0, 32, 0, 0, 0, 0]) := by rfl

theorem test_claim_refused : answer (after (.claim (other [])) mgr) = some (1, [5]) := by decide +kernel

theorem test_claim_renewed :
    let s := after (.claim (req [])) (atTime 7 mgr)
    answer s = some (0, [5, 0, 200]) ∧ s.agent.lease = some 2000007 := by decide +kernel

theorem test_release :
    let s := after (.release (req [])) mgr
    answer s = some (0, [0xFF]) ∧ s.agent.holder = none ∧ s.agent.lease = none := by decide +kernel

theorem test_read_param : answer (after (.readParam (req [6])) mgr) = some (0, [6, 0, 0, 0, 200]) := by decide +kernel

theorem test_write_param :
    let s := after (.writeParam (req [6, 0, 0, 0x17, 0x70])) mgr
    answer s = some (0, [6, 0, 0, 0, 200, 0, 0, 0x17, 0x70]) ∧ s.params.leaseTime = 6000 := by decide +kernel

theorem test_write_param_out_of_range : answer (after (.writeParam (req [6, 0, 0, 0x17, 0x71])) mgr) = some (4, []) := by
  decide +kernel

theorem test_restart :
    (after (.restart (req [])) mgr).agent.service = .serving (requestOf 0x06 (req [])) 20 .restarting := by decide +kernel

/-- The first line of the example of section 5.5. -/
theorem test_port_control_block :
    let s := after (.portControl (req [2, 0])) (mgr.setPort .b { onlinePort with
      urgent := [entryS 1, entryA 28, entryS 2, entryA 10], normal := List.replicate 5 (entryF 0)
      transmitter := .sending (entryF 16) ⟨22, 2⟩ })
    (s.port .b).urgent = [entryA 28, entryA 10] ∧ (s.port .b).normal = [] ∧ (s.port .b).blocked = 7
    ∧ answer s = some (0, [0, 0, 0, 0, 1, 1]) := by decide +kernel

theorem test_read_counters_clear :
    let s := after (.readCounters (req [0, 0, 1])) (mgr.setPort .u { onlinePort with aborted := 0x01020304 })
    answer s = some (0, [0, 0] ++ List.replicate 4 0 ++ [1, 2, 3, 4] ++ List.replicate 16 0) ∧ (s.port .u).aborted = 0 := by
  decide +kernel

theorem test_set_route :
    let s := after (.setRoute (req [50, 55, 3])) mgr
    answer s = some (0, []) ∧ s.route 49 = .default ∧ s.route 50 = .b ∧ s.route 55 = .b ∧ s.route 56 = .default := by
  decide +kernel

theorem test_read_route :
    answer (after (.readRoute (other [112, 56])) mgr) = some (0, [112, 15] ++ List.replicate 15 0) := by decide +kernel

theorem test_load_flow :
    let s := after (.loadFlow (req (9 :: defn9.bytes))) mgr
    answer s = some (0, [9, 0])
    ∧ s.flow 9 = some ⟨defn9, .disabled, none, none, 0, 0, 0, some 0, none, .zero⟩ := by decide +kernel

theorem test_load_flow_key_taken :
    answer (after (.loadFlow (req (10 :: defn9.bytes))) (withFlow flow9 mgr)) = some (8, []) := by decide +kernel

theorem test_retime_flow :
    let s := after (.retimeFlow (req [9, 0x01, 0xF4, 0, 50, 0, 100])) (withFlow flow9 mgr)
    answer s = some (0, [9, 2, 1, 0, 0x4C, 0x53, 0x10, 0, 0x4C, 0x55, 0x04])
    ∧ (s.flow 9).map (fun f => f.defn) = some { defn9 with period := 500, early := 50, late := 100 } := by decide +kernel

def disabled9 : Flow :=
  { flow9 with state := .disabled, schedule := none, lastSeq := none, misses := 0, good := 0, subs := 0 }

theorem test_arm_flow :
    let s := after (.armFlow (req [9])) (withFlow disabled9 mgr)
    answer s = some (0, [9, 1]) ∧ s.flow 9 = some { disabled9 with state := .armed, holdContent := none } := by
  decide +kernel

theorem test_disarm_flow :
    let s := after (.disarmFlow (req [9])) (withFlow flow9 mgr)
    answer s = some (0, [9, 2]) ∧ s.flow 9 = some disabled9 := by decide +kernel

theorem test_drop_flow :
    let s := after (.dropFlow (req [9])) (withFlow disabled9 mgr)
    answer s = some (0, [9, 0]) ∧ s.flow 9 = none := by decide +kernel

theorem test_read_flow :
    answer (after (.readFlow (other [9, 0, 0])) (withFlow flow9 mgr))
      = some (0, [9, 1, 1, 33, 2, 0, 2, 0, 200, 0, 20, 0, 50, 0, 60, 1, 0, 0, 1, 1, 2, 1, 0, 1, 0, 2, 1, 0, 0x4C, 0x53,
          0x10, 0, 0x4C, 0x55, 0x04, 1, 7, 0, 0, 0, 0, 1]) := by decide +kernel

theorem test_clear_table :
    let s := after (.clearTable (req [])) (atTime 100 mgr)
    s.sweep = some ⟨100, 0, 0, requestOf 0x26 (req [])⟩ := by decide +kernel

theorem test_read_attention :
    (answer (after (.readAttention (other [1, 3])) (listed mgr))).map (fun x => (x.1, x.2.take 23))
      = some (0, [4, 0, 0, 0, 1, 1, 3, 0, 41, 0x11, 12, 2, 2, 0, 0, 0x3A, 0x98, 0, 0, 0, 0, 0, 0]) := by decide +kernel

/-- The event at T + 11 ms of the example of chapter 7: the record is reduced, the report ends and the next begins. -/
theorem test_ack_attention :
    let s := after (.ackAttention ⟨1, 3, .u, [0, 0, 1, 0, 80, 1]⟩) (atTime 11000 (waiting 0 mgr))
    answer s = some (0, [1, 0, 80, 0, 1, 0, 0, 1])
    ∧ s.attention.records = [{ record80 with count := 1, state := .reported }]
    ∧ s.reporter = ⟨.waitAck, 14, [⟨80, false⟩], 0, some 61000⟩ := by decide +kernel

/-- The ACK_ATTENTION of REPORT_ADDR that ends a stall is applied first (R121): the record goes, and nothing is left to
report. -/
theorem test_ack_before_the_stall_ends :
    let s := after (.ackAttention ⟨1, 3, .u, [0, 0, 1, 0, 80, 2]⟩) stalled
    answer s = some (0, [1, 0, 80, 0, 0, 0, 0, 0]) ∧ s.attention.records = []
    ∧ s.reporter = ⟨.idle, 13, [], 0, none⟩ ∧ s.alert = false := by decide +kernel

/-- Any other request of REPORT_ADDR that the busy agent queues ends the stall in its arrival. -/
theorem test_request_ends_the_stall :
    let s := after (.claim ⟨1, 3, .u, []⟩) (stalled.setAgent { stalled.agent with service := .restartWait })
    s.reporter.state = .waitAck ∧ s.reporter.tag = 14 ∧ s.agent.queue.length = 1 := by decide +kernel

theorem test_clear_attention :
    let s := after (.clearAttention (req [])) (listed mgr)
    answer s = some (0, [4, 0, 0]) ∧ list s = [] ∧ s.alert = false ∧ s.attention.nextId = 45 := by decide +kernel

theorem test_set_cause :
    let s := after (.setCause (req [0x15, 1, 5])) mgr
    answer s = some (0, [0x15, 0, 5, 1, 5]) ∧ s.attention.setting .flowEarly = ⟨true, 5⟩ := by decide +kernel

theorem test_force_attention :
    let s := after (.forceAttention (req [9, 3])) (listed mgr)
    answer s = some (0, [0, 0, 45])
    ∧ (list s).map (fun r => r.1) = [43, 41, 45, 44, 42] := by decide +kernel

/-- Ring 2 of the example of section 8.6, under a trigger of FLOW/LOST with object 5. -/
def ring2 : RingDef := ⟨768, 16, 8, .wrap, 0xFFFF, 0b1001, some 5, some ⟨.flowLost, some 5⟩, 3⟩

def ringBytes : List Byte := [0x03, 0, 0, 16, 8, 0, 0xFF, 0xFF, 9, 5, 0x12, 1, 5, 0, 3]

def withRing (r : Ring) (s : State) : State := s.setRing 2 (some r)

theorem test_define_ring :
    let s := after (.defineRing (req (2 :: ringBytes))) mgr
    answer s = some (0, [2, 3, 0, 0, 16]) ∧ s.ring 2 = some ⟨ring2, .idle, 0, 0, none⟩ := by decide +kernel

/-- A base that is not a multiple of the size, in the example of section 8.6. -/
theorem test_define_ring_bad_base : RingDef.ofBytes [0x03, 0x20, 0, 64, 8, 0, 0xFF, 0xFF, 9, 5, 0, 0, 0, 0, 3] = none := by
  decide

theorem test_start_ring :
    let s := after (.startRing (req [2])) (withRing ⟨ring2, .frozen, 21, 16, none⟩ mgr)
    answer s = some (0, [2, 1]) ∧ s.ring 2 = some ⟨ring2, .running, 0, 0, none⟩ := by decide +kernel

theorem test_stop_ring :
    let s := after (.stopRing (req [2])) (withRing ⟨ring2, .running, 21, 16, none⟩ mgr)
    answer s = some (0, [2, 1, 0, 0, 0, 21, 0, 16]) ∧ s.ring 2 = some ⟨ring2, .frozen, 21, 16, none⟩ := by decide +kernel

theorem test_trigger_ring :
    let s := after (.triggerRing (req [2])) (withRing ⟨ring2, .running, 21, 16, none⟩ mgr)
    answer s = some (0, [2, 1, 2]) ∧ s.ring 2 = some ⟨ring2, .postfill, 21, 16, some 3⟩ := by decide +kernel

theorem test_read_ring :
    answer (after (.readRing (other [2, 0, 0, 0, 21])) (withRing ⟨ring2, .frozen, 21, 16, none⟩ mgr))
      = some (0, [2, 3, 0, 0, 0, 5, 0, 0, 0, 21, 0]) := by decide +kernel

theorem test_discard_ring :
    let s := after (.discardRing (req [2])) (withRing ⟨ring2, .postfill, 21, 16, some 3⟩ mgr)
    answer s = some (0, [2, 2]) ∧ s.ring 2 = none := by decide +kernel

/-- The SENSE_CONFIG of the example of chapter 9, with T = 0. -/
theorem test_sense_config :
    let s := after (.senseConfig (req [2, 0, 10, 3])) (atTime 2004 (mgr.setInput 2 { guard with
      level := .high, debounced := .deasserted, nextSample := 2010 }))
    answer s = some (0, [2, 1, 30, 3, 0, 10, 3, 1, 1, 0, 1, 1])
    ∧ (s.input 2).qualification = some ⟨.asserted, 2110⟩ := by decide +kernel

theorem test_read_sense :
    answer (after (.readSense (other [])) (mgr.setInput 0 guard))
      = some (0, [0, 1, 1, 0, 0, 1, 30, 3] ++ List.replicate 24 0) := by decide +kernel

theorem test_unknown_command : answer (after (.unknownCommand 0x07 (other [1])) mgr) = some (2, []) := by decide +kernel

/-- A request that reaches a busy agent waits, as the second line of the example of chapter 10. -/
theorem test_request_waits :
    (after (.claim ⟨9, 30, .b, []⟩) (after (.claim (req [])) mgr)).agent.queue = [⟨9, 30, .b, 0x02, []⟩] := by
  decide +kernel

/-! ## States that meet the hypotheses of the statements -/

/-- A module with something of everything: a queued frame of either kind, a LOCKED flow, a RUNNING ring, two records, a
report that waits, a request in service and one that waits, and a command. -/
def busy : State :=
  { withRing ⟨ring2, .running, 21, 16, none⟩ (withFlow flow9 (online mgr)) with
    pending := [.signalValid .b]
    alert := true
    ports := ⟨{ onlinePort with
      urgent := [entryA 1], normal := [entryF 0], transmitter := .sending (entryF 60) ⟨57, 3⟩ }, onlinePort, .reset⟩
    attention := { mgr.attention with
      records := [⟨43, .flowLost, 12, 0, 1, none, 2000, 2000, .unreported⟩, record80], nextId := 81 }
    reporter := ⟨.waitAck, 13, [⟨80, false⟩], 0, some 61000⟩
    agent := { mgr.agent with
      queue := [requestOf 0x51 (other [])], service := .serving (requestOf 0x51 (req [])) 20 (.answer .ok [])
      cache := [⟨1, 41, 0x22, [0x22, 0, 9, 1]⟩] } }

theorem test_hyp_StepRunsFrontCommand : ∃ c rest, busy.pending = c :: rest := ⟨_, _, rfl⟩

theorem test_hyp_StepOnEmptyQueue :
    (({ mgr with resetAsserted := true } : State).pending = []
      ∧ ({ mgr with resetAsserted := true } : State).resetAsserted = true)
    ∧ (({ State.reset with sense := .replicate 4 { Sense.reset with nextSample := 10 } } : State).eventsDue = []
      ∧ ({ State.reset with sense := .replicate 4 { Sense.reset with nextSample := 10 } } : State).samplesDue = [])
    ∧ State.reset.eventsDue ++ State.reset.samplesDue ≠ []
    ∧ (atTime 2000000 mgr).eventsDue ≠ [] ∧ State.reset.pending = [] ∧ State.reset.resetAsserted = false := by
  and_intros <;> decide +kernel

theorem test_hyp_ResetHoldsAndColdResetClears :
    ({ busy with resetAsserted := true } : State).resetAsserted = true ∧ Instr.claim (req []) ≠ .resetAsserted
    ∧ ∀ a, Instr.claim (req []) ≠ .coldReset a := by
  and_intros
  · rfl
  · decide
  · intro a h; cases h

theorem busy_steps : ∃ t, step busy = .next t := ⟨_, rfl⟩

theorem test_hyp_StepKeepsQueues : busy.queuesOk ∧ ∃ t, step busy = .next t := by
  refine ⟨fun p => ?_, busy_steps⟩
  cases p <;> exact ⟨by decide, by decide, by decide, by decide, by decide, by decide⟩

theorem test_hyp_StepKeepsAttentionList : busy.attention.ok ∧ ∃ t, step busy = .next t :=
  ⟨⟨by decide, by decide, by decide, by decide, by decide, by decide, by decide, by decide⟩, busy_steps⟩

theorem busy_flow (i : Fin 64) (f : Flow) (h : busy.flow i = some f) : i = 9 ∧ f = flow9 := by
  by_cases hi : i = 9
  · subst hi
    have : busy.flow 9 = some flow9 := by decide +kernel
    exact ⟨rfl, (Option.some.inj (h.symm.trans this))⟩
  · have : ∀ j : Fin 64, j ≠ 9 → busy.flow j = none := by decide +kernel
    rw [this i hi] at h
    cases h

theorem busy_ring (k : Fin 8) (r : Ring) (h : busy.ring k = some r) : k = 2 ∧ r = ⟨ring2, .running, 21, 16, none⟩ := by
  by_cases hk : k = 2
  · subst hk
    have : busy.ring 2 = some ⟨ring2, .running, 21, 16, none⟩ := by decide +kernel
    exact ⟨rfl, (Option.some.inj (h.symm.trans this))⟩
  · have : ∀ j : Fin 8, j ≠ 2 → busy.ring j = none := by decide +kernel
    rw [this k hk] at h
    cases h

theorem flow9_ok : flow9.ok :=
  ⟨by decide, ⟨by decide, by decide, by decide, by decide, by decide⟩, by decide, fun c h => by
    cases h; exact ⟨by decide, by decide, by decide⟩⟩

theorem test_hyp_StepKeepsFlowTable : busy.flowsOk ∧ ∃ t, step busy = .next t := by
  refine ⟨⟨fun i f h => ?_, fun i j f g hij hf hg => ?_, fun i j f g k hij hf hg => ?_⟩, busy_steps⟩
  · rw [(busy_flow i f h).2]; exact flow9_ok
  · exact absurd ((busy_flow i f hf).1.trans (busy_flow j g hg).1.symm) hij
  · exact absurd ((busy_flow i f hf).1.trans (busy_flow j g hg).1.symm) hij

theorem test_hyp_StepKeepsCaptureUnit : busy.captureOk ∧ ∃ t, step busy = .next t := by
  refine ⟨⟨fun k r h => ?_, fun i j f g hij hf hg => ?_, by decide⟩, busy_steps⟩
  · rw [(busy_ring k r h).2]; exact ⟨by decide, by decide, by decide⟩
  · exact absurd ((busy_ring i f hf).1.trans (busy_ring j g hg).1.symm) hij

theorem test_hyp_StepKeepsReporter : busy.attention.ok ∧ busy.reporterOk ∧ ∃ t, step busy = .next t :=
  ⟨test_hyp_StepKeepsAttentionList.1,
    ⟨⟨⟨by decide, by decide, by decide, by decide⟩, by decide⟩, by decide, by decide⟩, busy_steps⟩

theorem test_hyp_StepKeepsAgent : busy.agent.ok ∧ ∃ t, step busy = .next t :=
  ⟨⟨by decide, by decide, by decide, by decide, by decide, by decide⟩, busy_steps⟩

theorem test_hyp_StepKeepsAlert : busy.alertOk ∧ ∃ t, step busy = .next t :=
  ⟨by unfold State.alertOk; decide, busy_steps⟩

theorem test_hyp_StepTakesEverythingRaised :
    (busy.raised = [] ∧ ∃ t, step busy = .next t)
    ∧ mgr.live (.announce .portLoop 0) = false
    ∧ ((mgr.raiseEvent .portLoop 0).raised = [.attention ⟨.portLoop, 0, 0, none, none⟩]
      ∧ (mgr.raiseEvent .portLoop 0).live (.attention ⟨.portLoop, 0, 0, none, none⟩) = true)
    ∧ (let s := (mgr.raiseFlow 3 false .flowEarly).raiseFlow 3 false .flowSeqBreak
      (∀ x ∈ s.raised, s.live x = true) ∧ s.raised ≠ [])
    ∧ (let s := (mgr.setAgent { mgr.agent with queue := [requestOf 0x31 (req [])] }).raise (.stallExit 5)
      s.agent.queue = [requestOf 0x31 (req [])] ∧ (requestOf 0x31 (req [])).code = 0x31 ∧ .take ∉ s.raised
      ∧ s.agent.service = .idle)
    ∧ busy.agent.service ≠ .idle :=
  ⟨⟨rfl, busy_steps⟩, by decide +kernel, by decide +kernel, by decide +kernel, by decide +kernel, by decide +kernel⟩

theorem test_hyp_FrameReadsBack : ∃ f : Frame, f.payload.length ≤ 60 ∧ 60 ≤ f.payload.length ∧ f.src ≠ 127 :=
  ⟨⟨127, true, 126, true, .sub, 15, true, 255, 15, 0, List.replicate 60 0, 0⟩, by decide, by decide, by decide⟩

theorem test_hyp_DefinitionReadsBack :
    defn9.legal = true
    ∧ ({ defn9 with
          src := 126, dst := 127, ch := 15, period := 65535, early := 65534, late := 65534, lenMin := 60, gap := 127
          subLimit := 14, lossThreshold := 15, recovery := 7, gate := some 3 } : FlowDef).legal = true := by decide

theorem test_hyp_LineComesOnline :
    let s := mgr.setPort .u { PortState.reset with qualification := some 107 }
    ((mgr.port .u).line = .offline ∧ (mgr.port .u).qualification = none ∧ mgr.resetAsserted = false)
    ∧ ((s.port .u).line = .offline ∧ (s.port .u).qualification = some 107 ∧ s.resetAsserted = false)
    ∧ (((online mgr).port .u).line = .online ∧ (online mgr).resetAsserted = false) := by
  and_intros <;> decide +kernel

def entryM : QueueEntry := ⟨frame .mrs 20 30 0 15 12 [0x06, 0], .mrs, true⟩

theorem test_hyp_SignalLossTakesPortOffline :
    ((mgr.port .d).line = .offline ∧ mgr.resetAsserted = false)
    ∧ ((busy.port .u).line = .online ∧ (busy.port .u).holdsMark = false)
    ∧ (({ onlinePort with urgent := [entryM] } : PortState).line = .online
      ∧ ({ onlinePort with urgent := [entryM] } : PortState).holdsMark = true) := by
  and_intros <;> decide +kernel

theorem test_hyp_TransmissionCompletes :
    let s := (online mgr).setPort .d { onlinePort with transmitter := .sending entryM ⟨11, 1⟩ }
    (mgr.port .d).transmitter = .idle
    ∧ ((busy.port .u).transmitter = .sending (entryF 60) ⟨57, 3⟩ ∧ (entryF 60).restartMark = false)
    ∧ ((s.port .d).transmitter = .sending entryM ⟨11, 1⟩ ∧ entryM.restartMark = true ∧ s.raised = []
      ∧ s.resetAsserted = false) := by
  and_intros <;> decide +kernel

theorem test_hyp_OffersAndTheTransmitter :
    PortState.reset.line = .offline
    ∧ (({ onlinePort with admin := .blocked } : PortState).line = .online ∧ (entryF 0).origin = .forward
      ∧ (entryS 0).origin = .sub ∧ (entryA 0).origin = .atn ∧ entryM.origin = .mrs)
    ∧ (({ onlinePort with normal := List.replicate 12 (entryF 0) } : PortState).normal.length = 12
      ∧ ({ onlinePort with urgent := List.replicate 4 (entryS 0) } : PortState).urgent.length = 4)
    ∧ (({ onlinePort with urgent := [entryS 12], normal := [entryF 0] } : PortState).urgent = [entryS 12])
    ∧ (({ onlinePort with normal := [entryF 0] } : PortState).urgent = [] ∧ onlinePort.transmitter = .idle) := by
  and_intros <;> decide +kernel

theorem test_hyp_WarmRestartAtEveryBlock :
    busy.flow 9 = some flow9 ∧ flow9.state ≠ .disabled ∧ busy.flow 63 = none ∧ disabled9.state = .disabled
    ∧ busy.ring 2 = some ⟨ring2, .running, 21, 16, none⟩ ∧ busy.ring 7 = none
    ∧ (withRing ⟨ring2, .frozen, 21, 16, none⟩ mgr).ring 2 = some ⟨ring2, .frozen, 21, 16, none⟩ := by
  and_intros <;> decide +kernel

/-- A frame as it arrives: what the receive check reads. -/
theorem parsed : ∀ f ∈ [frame .acy 31 20 0 15 0 [], frame .acy 20 1 0 15 0 [], frame .acy 1 40 0 0 0 [],
    frame .acy 35 127 0 1 0 [], frame .acy 53 54 0 15 0 [], frame .mgt 1 20 0 0 41 [0x22, 9], frame .mgt 1 127 0 15 7 [1],
    frame .cyc 1 33 2 15 8 [0xCD], frame .sub 1 33 2 15 8 [0xCD], frame .mgt 20 127 0 15 7 [1],
    frame .mgt 1 127 0 0 7 [1]], Frame.parse f.bytes = some f := by decide +kernel

theorem test_hyp_CheckLocalAndScreeningStages :
    ((mgr.port .u).line = .offline ∧ mgr.resetAsserted = false)
    ∧ (((online mgr).port .u).line = .online ∧ ([] : List Byte).length < 8)
    ∧ (Frame.parse (frame .acy 31 20 0 15 0 []).bytes = some (frame .acy 31 20 0 15 0 [])
      ∧ (online mgr).addressed = true ∧ (frame .acy 31 20 0 15 0 []).dst = (online mgr).station
      ∧ ¬((frame .acy 31 20 0 15 0 []).kind = .mgt ∧ portIn (online mgr).params.mgmtPorts .u = true
        ∧ (frame .acy 31 20 0 15 0 []).payload ≠ []))
    ∧ ((online mgr).isLocal (frame .acy 20 1 0 15 0 []) = false
      ∧ (online mgr).offersDiscover .d (frame .acy 20 1 0 15 0 []) = false
      ∧ (frame .acy 20 1 0 15 0 []).src = (online mgr).station)
    ∧ ((online mgr).isLocal (frame .acy 1 40 0 0 0 []) = false
      ∧ (online mgr).offersDiscover .u (frame .acy 1 40 0 0 0 []) = false
      ∧ (frame .acy 1 40 0 0 0 []).src ≠ (online mgr).station ∧ ((online mgr).port .u).admin = .enabled
      ∧ (frame .acy 1 40 0 0 0 []).hop = 0)
    ∧ ((mgr.setPort .u { onlinePort with admin := .blocked }).port .u).admin = .blocked := by
  and_intros <;> decide +kernel

/-- The agent busy with a request of station 1, with a cached answer for station 9. -/
def serving (s : State) : State :=
  s.setAgent { mgr.agent with
    service := .serving (requestOf 0x44 ⟨1, 40, .u, []⟩) 20 (.answer .ok [])
    cache := [⟨9, 39, 0x25, [0x25, 0]⟩] }

def full (s : State) : State :=
  s.setAgent { s.agent with queue := [⟨1, 41, .u, 1, []⟩, ⟨5, 12, .u, 1, []⟩, ⟨5, 13, .u, 1, []⟩, ⟨9, 3, .u, 1, []⟩] }

theorem test_hyp_ArrivalOfRequestIsAdmitted :
    (cacheHit ⟨9, 39, .u, 0x25, []⟩ (serving mgr).agent.cache = some ⟨9, 39, 0x25, [0x25, 0]⟩)
    ∧ (cacheHit ⟨1, 40, .u, 0x44, []⟩ (serving mgr).agent.cache = none ∧ (serving mgr).inFlight ⟨1, 40, .u, 0x44, []⟩ = true)
    ∧ (cacheHit ⟨9, 4, .u, 0x51, []⟩ (serving mgr).agent.cache = none ∧ (serving mgr).inFlight ⟨9, 4, .u, 0x51, []⟩ = false
      ∧ (serving mgr).agent.queue.length < 4)
    ∧ ((full (serving mgr)).inFlight ⟨9, 4, .u, 0x51, []⟩ = false ∧ 4 ≤ (full (serving mgr)).agent.queue.length
      ∧ cacheHit ⟨9, 4, .u, 0x51, []⟩ (full (serving mgr)).agent.cache = none)
    ∧ ((serving (online mgr)).resetAsserted = false ∧ ((serving (online mgr)).port .u).line = .online
      ∧ Frame.parse (frame .mgt 1 20 0 0 41 [0x22, 9]).bytes = some (frame .mgt 1 20 0 0 41 [0x22, 9])
      ∧ (serving (online mgr)).addressed = true ∧ (frame .mgt 1 20 0 0 41 [0x22, 9]).dst = (serving (online mgr)).station
      ∧ portIn (serving (online mgr)).params.mgmtPorts .u = true
      ∧ (frame .mgt 1 20 0 0 41 [0x22, 9]).payload = [0x22, 9] ∧ (serving (online mgr)).agent.service ≠ .idle)
    ∧ ((online mgr).agent.service = .idle
      ∧ (((online mgr).endReception .u).admission ⟨1, 41, .u, 0x22, [9]⟩ true).2.agent.queue ≠ [])
    ∧ ((online stalled).reporter.state = .stalled ∧ (online stalled).params.reportAddr = some 1
      ∧ (online stalled).resetAsserted = false ∧ (online stalled).addressed = true
      ∧ (frame .mgt 1 20 0 0 41 [0x22, 9]).dst = (online stalled).station) := by
  and_intros <;> decide +kernel

theorem test_hyp_BroadcastDiscover :
    let s := serving (online mgr)
    let x := frame .mgt 1 127 0 15 7 [1]
    (s.resetAsserted = false ∧ (s.port .u).line = .online ∧ Frame.parse x.bytes = some x ∧ s.addressed = true
      ∧ x.dst = 127 ∧ x.kind = .mgt ∧ portIn s.params.mgmtPorts .u = true ∧ x.payload.head? = some 0x01
      ∧ s.agent.service ≠ .idle ∧ s.reporter.state ≠ .stalled ∧ x.src ≠ s.station ∧ (s.port .u).admin = .enabled
      ∧ x.hop ≠ 0)
    ∧ ((online stalled).agent.service = .idle ∧ (online stalled).reporter.state = .stalled
      ∧ (online stalled).params.reportAddr = some x.src ∧ portIn (online stalled).params.mgmtPorts .u = true
      ∧ (((online stalled).endReception .u).admission ⟨1, 7, .u, 1, []⟩ false).2.agent.queue ≠ [])
    ∧ (frame .mgt 20 127 0 15 7 [1]).src = s.station
    ∧ (frame .mgt 1 127 0 0 7 [1]).hop = 0
    ∧ ((s.setPort .u { onlinePort with admin := .blocked }).port .u).admin = .blocked := by
  and_intros <;> decide +kernel

theorem unmatched_of_no_flow {s : State} (x : Frame) (h : ∀ i, s.flow i = none) : s.unmatched x := by
  intro i f hf
  rw [h i] at hf
  cases hf

theorem test_hyp_RouteStageForwards :
    (Frame.parse (frame .acy 35 127 0 1 0 []).bytes = some (frame .acy 35 127 0 1 0 [])
      ∧ (online mgr).toBeRouted .d (frame .acy 35 127 0 1 0 []) ∧ ((online mgr).port .d).line = .online)
    ∧ (Frame.parse (frame .acy 53 54 0 15 0 []).bytes = some (frame .acy 53 54 0 15 0 [])
      ∧ (online mgr).toBeRouted .b (frame .acy 53 54 0 15 0 [])
      ∧ (frame .acy 53 54 0 15 0 []).dst.toNat < 127)
    ∧ (online mgr).toBeRouted .u (frame .cyc 1 33 2 15 8 [0xCD])
    ∧ (online mgr).toBeRouted .u (frame .sub 1 33 2 15 8 [0xCD]) := by
  have hn : ∀ i, (online mgr).flow i = none := by decide +kernel
  have key : ∀ p, ∀ x ∈ [frame .acy 35 127 0 1 0 [], frame .acy 53 54 0 15 0 [], frame .cyc 1 33 2 15 8 [0xCD],
      frame .sub 1 33 2 15 8 [0xCD]], (online mgr).passesScreen p x := by
    intro p x hx
    simp only [List.mem_cons, List.not_mem_nil, or_false] at hx
    rcases hx with rfl | rfl | rfl | rfl <;> cases p <;>
      exact ⟨by decide +kernel, by decide +kernel, by decide +kernel, by decide +kernel, by decide +kernel⟩
  exact ⟨⟨parsed _ (by simp), ⟨key _ _ (by simp), Or.inl rfl⟩, rfl⟩,
    ⟨parsed _ (by simp), ⟨key _ _ (by simp), Or.inl rfl⟩, by decide +kernel⟩,
    ⟨key _ _ (by simp), Or.inr (Or.inr (Or.inr (Or.inr (Or.inl ⟨rfl, unmatched_of_no_flow _ hn, rfl⟩))))⟩,
    ⟨key _ _ (by simp), Or.inr (Or.inr (Or.inr (Or.inr (Or.inr ⟨rfl, Or.inl (unmatched_of_no_flow _ hn)⟩))))⟩⟩

theorem test_hyp_FlowLookupAndSupervision :
    let s := withFlow flow9 (online mgr)
    (s.passesScreen .u (frame .cyc 1 33 2 15 8 [0xCD]) ∧ s.lookup (frame .cyc 1 33 2 15 8 [0xCD]) = some (9, flow9)
      ∧ Frame.parse (frame .cyc 1 33 2 15 8 [0xCD]).bytes = some (frame .cyc 1 33 2 15 8 [0xCD])
      ∧ (s.port .u).line = .online ∧ s.resetAsserted = false)
    ∧ (s.passesScreen .u (frame .sub 1 33 2 15 8 [0xCD]) ∧ s.lookup (frame .sub 1 33 2 15 8 [0xCD]) = some (9, flow9)
      ∧ flow9.defn.ingress = .u)
    ∧ ((online mgr).unmatched (frame .cyc 1 33 2 15 8 [0xCD])
      ∧ ((online mgr).setAgent { mgr.agent with
          params := { mgr.agent.params with unmatchedPolicy := .drop } }).params.unmatchedPolicy = .drop) := by
  have hn : ∀ i, (online mgr).flow i = none := by decide +kernel
  have hp : ∀ x ∈ [frame .cyc 1 33 2 15 8 [0xCD], frame .sub 1 33 2 15 8 [0xCD]],
      (withFlow flow9 (online mgr)).passesScreen .u x := by
    intro x hx
    simp only [List.mem_cons, List.not_mem_nil, or_false] at hx
    rcases hx with rfl | rfl <;>
      exact ⟨by decide +kernel, by decide +kernel, by decide +kernel, by decide +kernel, by decide +kernel⟩
  exact ⟨⟨hp _ (by simp), by decide +kernel, parsed _ (by simp), rfl, rfl⟩,
    ⟨hp _ (by simp), by decide +kernel, rfl⟩, unmatched_of_no_flow _ hn, rfl⟩

theorem test_hyp_SupervisionDropsFrame :
    Port.d ≠ flow9.defn.ingress
    ∧ ({ flow9 with defn := { defn9 with lenMin := 2 } } : Flow).defn.lenMin > [0xCD].length
    ∧ (flow9.isEarly 5001799 = true ∧ flow9.isEarly 5001800 = false
      ∧ ({ flow9 with defn := { defn9 with earlyAction := .drop } } : Flow).defn.earlyAction = .drop)
    ∧ (flow9.defn.seqPolicy = .check ∧ flow9.lastSeq = some 7 ∧ ((7 + 128 : Byte) - 7).toNat = 128
      ∧ ((6 : Byte) - 7).toNat = 255) := by
  and_intros <;> decide +kernel

theorem test_hyp_SupervisionAcceptsFrame :
    flow9.ok ∧ flow9.state ≠ .disabled ∧ flow9.defn.ingress = .u ∧ flow9.defn.lenMin ≤ 1 ∧ 1 ≤ flow9.defn.lenMax
    ∧ (flow9.isEarly 5002500 = true → flow9.defn.earlyAction = .pass) ∧ flow9.lastSeq = some 7
    ∧ (((8 : Byte) - 7).toNat = 1 ∧ ((9 : Byte) - 7).toNat = 2 ∧ ((134 : Byte) - 7).toNat = 127) := by
  refine ⟨flow9_ok, ?_⟩
  and_intros <;> decide +kernel

theorem test_hyp_ExpiryLeavesOverdue :
    let s := withFlow flow9 mgr
    (s.resetAsserted = false ∧ s.flow 9 = some flow9 ∧ flow9.state = .locked
      ∧ flow9.schedule = some ⟨5002000, 5002500⟩ ∧ flow9.misses + 1 < flow9.defn.lossThreshold)
    ∧ (flow9.defn.missPolicy ≠ .report ∧ flow9.subs < flow9.defn.subLimit ∧ s.gateOpen flow9.defn = true
      ∧ flow9.holdContent = some [0xAB])
    ∧ ({ flow9 with subs := 1 } : Flow).defn.subLimit ≤ ({ flow9 with subs := 1 } : Flow).subs := by
  and_intros <;> decide +kernel

theorem flow5_ok : flow5.ok :=
  ⟨by decide, ⟨by decide, by decide, by decide, by decide, by decide, by decide⟩, by decide, fun c h => by
    cases h; exact ⟨by decide, by decide, by decide⟩⟩

theorem disabled9_ok : disabled9.ok :=
  ⟨by decide, ⟨by decide, by decide, by decide, by decide, by decide⟩, by decide, fun c h => by
    cases h; exact ⟨by decide, by decide, by decide⟩⟩

/-- Entry 9 on probation after a loss. -/
def recovering9 : Flow := { flow9 with defn := { defn9 with recovery := 2 }, state := .recovering, good := 1 }

theorem recovering9_ok : recovering9.ok :=
  ⟨by decide, ⟨by decide, by decide, by decide, by decide, by decide, by decide⟩, by decide, fun c h => by
    cases h; exact ⟨by decide, by decide, by decide⟩⟩

theorem test_hyp_ExpiryLosesFlow :
    (flow5.ok ∧ (withFlow flow5 mgr).flow 9 = some flow5 ∧ flow5.schedule = some ⟨4000, 4200⟩
      ∧ flow5.defn.lossThreshold ≤ flow5.misses + 1 ∧ flow5.defn.missPolicy = .holdThenCut)
    ∧ (disabled9.ok ∧ disabled9.schedule = none ∧ (withFlow disabled9 mgr).resetAsserted = false)
    ∧ ({ defn9 with lossThreshold := 1, subLimit := 0 } : FlowDef).missPolicy ≠ .holdThenCut
    ∧ (recovering9.ok ∧ (withFlow recovering9 mgr).flow 9 = some recovering9 ∧ recovering9.state = .recovering
      ∧ recovering9.schedule = some ⟨5002000, 5002500⟩) := by
  exact ⟨⟨flow5_ok, by decide +kernel, by decide, by decide, by decide⟩, ⟨disabled9_ok, by decide, by decide⟩, by decide,
    recovering9_ok, by decide +kernel, by decide, by decide⟩

theorem test_hyp_SubstituteFrameFields : flow9.lastSeq = some 7 := rfl

theorem test_hyp_RestartClearTableAndSweep :
    (mgr.ready 0x06 (req []) ∧ mgr.ready 0x26 (req []) ∧ mgr.heldBy (req []) ∧ (req []).operands = [] ∧ mgr.sweep = none)
    ∧ ((sweeping 5 0 mgr).ready 0x06 (req []) ∧ (sweeping 5 0 mgr).ready 0x26 (req []) ∧ (sweeping 5 0 mgr).heldBy (req [])
      ∧ (sweeping 5 0 mgr).sweep ≠ none)
    ∧ ((sweeping 62 3 mgr).sweep.map (fun w => w.next.val + 1) = some 63 ∧ (sweeping 63 3 mgr).resetAsserted = false) := by
  and_intros <;> first | decide +kernel | exact Or.inl (by decide +kernel)

theorem test_hyp_SenseSampleQualifies :
    (mgr.resetAsserted = false ∧ guard.qualification = none ∧ rawState guard.polarity .low = guard.debounced)
    ∧ (rawState guard.polarity .high ≠ guard.debounced ∧ guard.debounce ≠ 0)
    ∧ (({ guard with qualification := some ⟨.deasserted, 1310⟩ } : Sense).qualification = some ⟨.deasserted, 1310⟩
      ∧ before 1300 1310 = true ∧ before 1310 1310 = false)
    ∧ (Sense.reset.debounce = 0 ∧ Sense.reset.settled = false ∧ rawState Sense.reset.polarity .high ≠ Sense.reset.debounced) := by
  and_intros <;> decide +kernel

theorem test_hyp_LeaseAndAckTimerExpire :
    (mgr.resetAsserted = false ∧ mgr.agent.lease = some 2000000 ∧ mgr.agent.holder = some 5)
    ∧ (State.reset.agent.lease = none ∧ State.reset.reporter.timer = none)
    ∧ ((waiting 4 mgr).reporter.state = .waitAck ∧ (waiting 4 mgr).reporter.timer = some 61000
      ∧ (waiting 4 mgr).params.reportAddr = some 1 ∧ (waiting 4 mgr).reporter.retries < (waiting 4 mgr).params.reportRetries)
    ∧ (waiting 5 mgr).params.reportRetries ≤ (waiting 5 mgr).reporter.retries := by
  and_intros <;> decide +kernel

theorem test_hyp_RequestCompletesWithResponse :
    ((serving mgr).agent.service = .serving (requestOf 0x44 ⟨1, 40, .u, []⟩) 20 (.answer .ok [])
      ∧ (serving mgr).agent.queue = [] ∧ (serving mgr).resetAsserted = false)
    ∧ mgr.agent.service = .idle
    ∧ ((after (.clearTable (req [])) mgr).agent.service = .serving (requestOf 0x26 (req [])) 20 .sweeping
      ∧ (after (.clearTable (req [])) mgr).sweep ≠ none)
    ∧ (after (.restart (req [])) mgr).agent.service = .serving (requestOf 0x06 (req [])) 20 .restarting
    ∧ (full (serving mgr)).agent.queue ≠ []
    ∧ (let s := after (.claim ⟨9, 30, .b, []⟩) (after (.clearTable (req [])) mgr)
      s.agent.queue = [⟨9, 30, .b, 0x02, []⟩] ∧ s.raised = [] ∧ s.sweep ≠ none
      ∧ s.agent.service = .serving (requestOf 0x26 (req [])) 20 .sweeping) := by
  and_intros <;> decide +kernel

/-- A list of 32 records of rank 0. -/
def fullList : Attention :=
  { Attention.reset with
    records := (List.range 32).map (fun n => ⟨n + 1, .flowLost, byte n, 0, 1, none, 0, 0, .unreported⟩), nextId := 33 }

theorem test_hyp_AttentionEventIsTaken :
    ((listed mgr).attention.ok ∧ fullList.ok)
    ∧ ({ Attention.reset with causes := .replicate 17 ⟨true, 0⟩ } : Attention).screens ⟨.portLoop, 0, 0, none, none⟩ = true
    ∧ (∃ r ∈ (listed mgr).attention.records, r.cause = .portOnline ∧ r.object = 2)
    ∧ ((∀ r ∈ (listed mgr).attention.records, ¬(r.cause = .portLoop ∧ r.object = 0))
      ∧ (listed mgr).attention.records.length < 32)
    ∧ ((∀ r ∈ fullList.records, ¬(r.cause = .portLoop ∧ r.object = 0)) ∧ fullList.records.length = 32) := by
  refine ⟨⟨?_, ?_⟩, ?_⟩
  · exact ⟨by decide, by decide, by decide, by decide, by decide, by decide, by decide, by decide⟩
  · exact ⟨by decide +kernel, by decide +kernel, by decide +kernel, by decide +kernel, by decide +kernel, by decide +kernel,
      by decide +kernel, by decide +kernel⟩
  · and_intros <;> decide +kernel

theorem test_hyp_ReportBegins :
    (reporting.reporter.state = .idle ∧ reporting.params.reportAddr = some 1 ∧ reporting.addressed = true
      ∧ ∃ r ∈ reporting.attention.records, r.state = .unreported)
    ∧ (listed mgr).params.reportAddr = none := by
  and_intros <;> decide +kernel

theorem test_hyp_StallEndsAndReportsAreAbandoned :
    (asRequest (.claim ⟨1, 3, .u, []⟩) = some (0x02, ⟨1, 3, .u, []⟩)
      ∧ (stalled.resetAsserted = false ∧ stalled.addressed = true ∧ stalled.raised = [])
      ∧ stalled.reporter.state = .stalled ∧ stalled.params.reportAddr = some 1)
    ∧ (waiting 0 mgr).reporter.state = .waitAck ∧ reporting.reporter.state = .idle
    ∧ mgr.params.reportAddr ≠ some 5 := by
  and_intros <;> decide +kernel

/-- A notice that ring 2 accepts. -/
def notice : Notice := ⟨7, .gen, some 5, .generated, [0, 0, 0, 0, 0, 0], 0, []⟩

theorem ring2_ok : (⟨ring2, .running, 21, 16, none⟩ : Ring).ok ∧ (⟨ring2, .postfill, 21, 16, some 1⟩ : Ring).ok :=
  ⟨⟨by decide, by decide, by decide⟩, ⟨by decide, by decide, 1, by decide, by decide, by decide⟩⟩

theorem test_hyp_RingRecordsAndTriggers :
    (⟨ring2, .running, 21, 16, none⟩ : Ring).ok ∧ (⟨ring2, .postfill, 21, 16, some 1⟩ : Ring).ok
    ∧ (withRing ⟨ring2, .postfill, 21, 16, some 1⟩ mgr).ring 2 = some ⟨ring2, .postfill, 21, 16, some 1⟩
    ∧ (ring2.verdictFilter.getLsbD notice.verdict.code = true ∧ ring2.portFilter.getLsbD notice.ingress.code = true
      ∧ ring2.flowFilter = notice.flow)
    ∧ ring2.flowFilter ≠ ({ notice with flow := none } : Notice).flow
    ∧ (busy.ring 2 = some ⟨ring2, .running, 21, 16, none⟩ ∧ ring2.trigger = some ⟨.flowLost, some 5⟩ ∧ ring2.postCount ≠ 0)
    ∧ ({ ring2 with postCount := 0, mode := .stop } : RingDef).legal = true := by
  refine ⟨ring2_ok.1, ring2_ok.2, ?_⟩
  and_intros <;> decide +kernel

theorem test_hyp_RequestIsNotTakenAtOnce :
    (asRequest (.claim (req [])) = some (0x02, req []) ∧ (serving mgr).resetAsserted = false
      ∧ (serving mgr).addressed = true ∧ (serving mgr).reporter.state ≠ .stalled ∧ (serving mgr).agent.service ≠ .idle)
    ∧ (let s := mgr.setAgent { mgr.agent with cache := [⟨5, 9, 0x02, [0x02, 0, 5, 0, 200]⟩] }
      s.agent.service = .idle ∧ s.agent.queue = [] ∧ cacheHit (requestOf 0x02 (req [])) s.agent.cache ≠ none)
    ∧ (asRequest (.claim ⟨1, 3, .u, []⟩) = some (0x02, ⟨1, 3, .u, []⟩) ∧ stalled.reporter.state = .stalled
      ∧ stalled.params.reportAddr = some 1 ∧ stalled.resetAsserted = false ∧ stalled.addressed = true)
    ∧ (({ mgr with station := 127 } : State).addressed = false ∧ ({ mgr with station := 127 } : State).resetAsserted = false) := by
  and_intros <;> decide +kernel

theorem test_hyp_RefusedCommands :
    (Command.ofCode 0x07 = none ∧ mgr.ready 0x07 (req []))
    ∧ (asRequest (.restart (other [])) = some (0x06, other []) ∧ mgr.ready 0x06 (other []) ∧ ¬mgr.heldBy (other []))
    ∧ (asRequest (.readFlow (other [9, 0, 1])) = some (0x25, other [9, 0, 1]) ∧ mgr.ready 0x25 (other [9, 0, 1])
      ∧ (other [9, 0, 1]).operands[2]? = some 1)
    ∧ (asRequest (.loadFlow (req [])) = some (0x20, req []) ∧ mgr.ready 0x20 (req []) ∧ mgr.heldBy (req [])
      ∧ (req []).operands.length ≠ 24)
    ∧ ((run (requestOf 0x07 (req [])) mgr).1 = .answer .unknownCommand [] ∧ Status.unknownCommand ≠ .ok) := by
  and_intros <;> first | decide +kernel | exact Or.inl (by decide +kernel)

theorem test_hyp_DiscoverAnswers : mgr.ready 0x01 (req []) ∧ (req []).operands = [] :=
  by and_intros <;> first | decide +kernel | exact Or.inl (by decide +kernel)

theorem test_hyp_ReadParamAnswers :
    (mgr.ready 0x04 (req []) ∧ (req []).operands.length ≠ 1)
    ∧ (mgr.ready 0x04 (req [9]) ∧ (req [9]).operands = [9] ∧ (9 : Byte) ∉ ([1, 2, 3, 4, 5, 6, 7, 8, 16, 17, 18] : List Byte))
    ∧ (mgr.ready 0x04 (req [3]) ∧ mgr.params.reportAddr = none ∧ reporting.params.reportAddr = some 1)
    ∧ BitVec.ofNat 32 mgr.params.leaseTime = 200 := by
  and_intros <;> first | decide +kernel | exact Or.inl (by decide +kernel)

theorem test_hyp_WriteParamWrites :
    (mgr.ready 0x05 (req [6, 0, 0, 0x17, 0x70]) ∧ mgr.heldBy (req [6, 0, 0, 0x17, 0x70]))
    ∧ ((word32 0 0 0x17 0x70).toNat = 6000 ∧ (word32 0 0 0x17 0x71).toNat = 6001 ∧ Param.leaseTime.number = 6)
    ∧ ((word32 0 0 0 126).toNat = 126 ∧ (word32 0 0 0 255).toNat = 255 ∧ (word32 0 0 0 20).toNat = mgr.station.toNat
      ∧ (word32 1 0 0 0).toNat = 2 ^ 24)
    ∧ mgr.ready 0x05 (req [18, 0, 0, 0, 0]) ∧ mgr.ready 0x05 (req [9, 0, 0, 0, 0]) := by
  and_intros <;> first | decide +kernel | exact Or.inl (by decide +kernel)

def unclaimed : State := { State.reset with station := 20 }

theorem test_hyp_ClaimAndRelease :
    (mgr.ready 0x02 (req []) ∧ mgr.heldBy (req []) ∧ (req []).operands = [])
    ∧ (mgr.ready 0x02 (other []) ∧ mgr.agent.holder = some 5 ∧ (5 : Address) ≠ (other []).requester)
    ∧ (mgr.ready 0x03 (req [0]) ∧ (req [0]).operands ≠ [])
    ∧ (unclaimed.ready 0x03 (req []) ∧ unclaimed.agent.holder = none) := by
  and_intros <;> first | decide +kernel | exact Or.inl (by decide +kernel)

theorem test_hyp_PortControlSetsAdmin :
    (mgr.ready 0x10 (req [3, 1]) ∧ mgr.heldBy (req [3, 1]) ∧ 2 < (3 : Byte).toNat)
    ∧ (mgr.ready 0x10 (req [2, 2]) ∧ 1 < (2 : Byte).toNat)
    ∧ (mgr.ready 0x10 (req [2, 1]) ∧ (2 : Byte) = portByte .b ∧ (1 : Byte).toNat ≤ 1) := by
  and_intros <;> first | decide +kernel | exact Or.inl (by decide +kernel)

theorem test_hyp_ReadCountersAnswers :
    (mgr.ready 0x11 (other [0, 0, 1]) ∧ ¬mgr.heldBy (other [0, 0, 1]))
    ∧ (mgr.ready 0x11 (req [0, 3, 1]) ∧ mgr.heldBy (req [0, 3, 1]) ∧ 2 < (3 : Byte).toNat)
    ∧ (mgr.ready 0x11 (other [0, 0, 2]) ∧ (2 : Byte) ≠ 1 ∧ 1 < (2 : Byte).toNat)
    ∧ (mgr.ready 0x11 (req [2, 2, 1]) ∧ (2 : Byte) = portByte .b ∧ (2 : Byte).toNat ≤ 2) := by
  and_intros <;> first | decide +kernel | exact Or.inl (by decide +kernel)

theorem test_hyp_SetRouteWritesRange :
    (mgr.ready 0x12 (other [0, 0, 0]) ∧ ¬mgr.heldBy (other [0, 0, 0]))
    ∧ (mgr.ready 0x12 (req [0, 0]) ∧ mgr.heldBy (req [0, 0]) ∧ (req [0, 0]).operands.length ≠ 3)
    ∧ (mgr.ready 0x12 (req [0, 127, 0]) ∧ 126 < (127 : Byte).toNat)
    ∧ (mgr.ready 0x12 (req [126, 125, 0]) ∧ (125 : Byte).toNat < (126 : Byte).toNat)
    ∧ (mgr.ready 0x12 (req [126, 126, 5]) ∧ 4 < (5 : Byte).toNat)
    ∧ (mgr.ready 0x12 (req [0, 126, 4]) ∧ (4 : Byte) = Target.drop.code ∧ (126 : Byte).toNat ≤ 126) := by
  and_intros <;> first | decide +kernel | exact Or.inl (by decide +kernel)

theorem test_hyp_ReadRouteAnswers :
    (mgr.ready 0x13 (other [0]) ∧ (other [0]).operands.length ≠ 2)
    ∧ (mgr.ready 0x13 (other [127, 1]) ∧ 126 < (127 : Byte).toNat)
    ∧ (mgr.ready 0x13 (other [126, 0]) ∧ mgr.ready 0x13 (other [0, 57]) ∧ 56 < (57 : Byte).toNat)
    ∧ (mgr.ready 0x13 (other [126, 56]) ∧ (126 : Byte).toNat ≤ 126 ∧ 1 ≤ (56 : Byte).toNat ∧ (56 : Byte).toNat ≤ 56) := by
  and_intros <;> first | decide +kernel | exact Or.inl (by decide +kernel)

/-- Sixteen valid entries hold the sixteen slots, each under a key of its own. -/
def slotsFull : State :=
  (List.finRange 16).foldl (fun s k =>
    s.setFlow ⟨k.val, by omega⟩ (some { disabled9 with
      defn := { defn9 with ch := BitVec.ofNat 4 k.val }, holdSlot := some k, holdContent := none })) mgr

theorem test_hyp_LoadFlowLoadsEntry :
    ((sweeping 5 0 mgr).ready 0x20 (req (9 :: defn9.bytes)) ∧ (sweeping 5 0 mgr).sweep ≠ none
      ∧ (req (9 :: defn9.bytes)).operands = byte (9 : Fin 64).val :: defn9.bytes ∧ defn9.bytes.length = 23)
    ∧ ((withFlow flow9 mgr).ready 0x20 (req (9 :: defn9.bytes)) ∧ (withFlow flow9 mgr).flow 9 = some flow9
      ∧ flow9.state ≠ .disabled ∧ (withFlow flow9 mgr).heldBy (req (9 :: defn9.bytes)))
    ∧ FlowDef.ofBytes (List.replicate 23 0) = none
    ∧ (FlowDef.ofBytes defn9.bytes = some defn9 ∧ defn9.src ≠ mgr.station ∧ defn9.dst ≠ mgr.station
      ∧ ({ defn9 with src := 20 } : FlowDef).src = mgr.station ∧ ({ defn9 with src := 20 } : FlowDef).legal = true)
    ∧ ((∀ i, mgr.flow i = none) ∧ mgr.sweep = none)
    ∧ (slotsFull.ready 0x20 (req (9 :: defn9.bytes)) ∧ (∀ k : Fin 16, slotsFull.slotTaken k = true)
      ∧ slotsFull.keyTaken 20 { defn9 with src := 2 } = false ∧ slotsFull.keyTaken 20 defn9 = true
      ∧ slotsFull.slotOf 20 = none) := by
  and_intros <;> first | decide +kernel | exact Or.inl (by decide +kernel)

theorem test_hyp_IndexAndSweepChecksAndRetimeFlow :
    (asRequest (.armFlow (req [64])) = some (0x22, req [64]) ∧ mgr.ready 0x22 (req [64]) ∧ mgr.heldBy (req [64])
      ∧ 63 < (64 : Byte).toNat)
    ∧ ((sweeping 5 0 mgr).ready 0x22 (req [63]) ∧ (63 : Byte).toNat ≤ 63 ∧ (sweeping 5 0 mgr).sweep ≠ none)
    ∧ (mgr.ready 0x21 (req [9, 0, 1, 0, 0, 0, 0]) ∧ mgr.flow 9 = none ∧ mgr.sweep = none)
    ∧ ((withFlow flow9 mgr).ready 0x21 (req [9, 0, 1, 0, 0, 0, 0]) ∧ (withFlow flow9 mgr).flow 9 = some flow9) := by
  and_intros <;> first | decide +kernel | exact Or.inl (by decide +kernel)

theorem test_hyp_ArmDisarmDropFlow :
    (mgr.ready 0x22 (req [63]) ∧ mgr.ready 0x23 (req [63]) ∧ mgr.ready 0x24 (req [63]) ∧ mgr.heldBy (req [63])
      ∧ mgr.flow 63 = none ∧ (req [63]).operands = [byte (63 : Fin 64).val] ∧ mgr.sweep = none)
    ∧ ((withFlow flow9 mgr).ready 0x22 (req [9]) ∧ (withFlow flow9 mgr).flow 9 = some flow9 ∧ flow9.state ≠ .disabled)
    ∧ ((withFlow disabled9 mgr).ready 0x22 (req [9]) ∧ (withFlow disabled9 mgr).flow 9 = some disabled9
      ∧ disabled9.state = .disabled) := by
  and_intros <;> first | decide +kernel | exact Or.inl (by decide +kernel)

theorem test_hyp_ReadFlowAnswers :
    (mgr.ready 0x25 (other [9, 0, 1]) ∧ ¬mgr.heldBy (other [9, 0, 1]))
    ∧ (mgr.ready 0x25 (req [64, 0, 1]) ∧ mgr.heldBy (req [64, 0, 1]) ∧ 63 < (64 : Byte).toNat)
    ∧ (mgr.ready 0x25 (other [63, 3, 0]) ∧ (0 : Byte) ≠ 1 ∧ 2 < (3 : Byte).toNat)
    ∧ (mgr.ready 0x25 (req [63, 2, 1]) ∧ mgr.flow 63 = none ∧ (63 : Byte) = byte (63 : Fin 64).val)
    ∧ ((withFlow flow9 mgr).ready 0x25 (req [9, 2, 1]) ∧ (withFlow flow9 mgr).flow 9 = some flow9) := by
  and_intros <;> first | decide +kernel | exact Or.inl (by decide +kernel)

theorem test_hyp_ReadAttentionAnswers :
    (mgr.ready 0x30 (other [32, 1]) ∧ 31 < (32 : Byte).toNat)
    ∧ (mgr.ready 0x30 (other [31, 4]) ∧ 3 < (4 : Byte).toNat ∧ mgr.ready 0x30 (other [0, 0]))
    ∧ ((listed mgr).ready 0x30 (other [0, 3]) ∧ 1 ≤ (3 : Byte).toNat ∧ (3 : Byte).toNat ≤ 3) := by
  and_intros <;> first | decide +kernel | exact Or.inl (by decide +kernel)

theorem test_hyp_AckAttentionAcknowledges :
    ((listed mgr).attention.ok ∧ (∀ r ∈ (listed mgr).attention.records, r.id ≠ 1))
    ∧ ((listed mgr).attention.records.map (fun r => (r.id, r.count)) = [(43, 1), (41, 2), (44, 1), (42, 1)])
    ∧ ({ record80 with count := 255 } : AttentionRecord).state = .unreported
    ∧ (mgr.ready 0x31 (other []) ∧ ¬mgr.heldBy (other []) ∧ mgr.params.reportAddr ≠ some (other []).requester)
    ∧ (mgr.ready 0x31 (req [0, 0]) ∧ mgr.heldBy (req [0, 0]) ∧ (req [0, 0]).operands.length < 3)
    ∧ (mgr.ready 0x31 (req [0, 0, 1]) ∧ ([] : List Byte).length ≠ 3 * (1 : Byte).toNat)
    ∧ (mgr.ready 0x31 (req ([0, 0, 9] ++ List.replicate 27 0)) ∧ 8 < (9 : Byte).toNat
      ∧ (List.replicate 27 (0 : Byte)).length = 3 * (9 : Byte).toNat)
    ∧ (mgr.ready 0x31 (req ([0, 0, 8] ++ List.replicate 24 0)) ∧ (List.replicate 24 (0 : Byte)).length = 3 * (8 : Byte).toNat)
    ∧ ((waiting 0 mgr).ready 0x31 ⟨1, 3, .u, [0, 0, 0]⟩ ∧ (waiting 0 mgr).params.reportAddr = some 1)
    ∧ (stalled.reporter.state = .stalled ∧ mgr.reporter.state = .idle ∧ (waiting 0 mgr).reporter.state = .waitAck
      ∧ (waiting 0 mgr).reportComplete = false
      ∧ ((waiting 0 mgr).setReporter ⟨.waitAck, 13, [⟨80, true⟩], 0, some 61000⟩).reportComplete = true) := by
  and_intros <;> first | decide +kernel | exact Or.inl (by decide +kernel)

theorem test_hyp_ClearSetForceAttention :
    (mgr.ready 0x32 (req []) ∧ mgr.heldBy (req []))
    ∧ (mgr.ready 0x33 (req [0x18, 0, 0]) ∧ ∀ c ∈ Cause.all, c.code ≠ 0x18)
    ∧ (mgr.ready 0x33 (req [0x11, 2, 0]) ∧ 1 < (2 : Byte).toNat ∧ mgr.ready 0x33 (req [0x11, 1, 8]) ∧ 7 < (8 : Byte).toNat)
    ∧ (mgr.ready 0x33 (req [0x61, 1, 7]) ∧ Cause.testForced.code = 0x61 ∧ (7 : Byte).toNat ≤ 7)
    ∧ (mgr.ready 0x34 (req [255, 8]) ∧ mgr.ready 0x34 (req [255, 7])) := by
  and_intros <;> first | decide +kernel | exact Or.inl (by decide +kernel)

theorem test_hyp_DefineRingDefines :
    (asRequest (.startRing (req [8])) = some (0x41, req [8]) ∧ mgr.ready 0x41 (req [8]) ∧ mgr.heldBy (req [8])
      ∧ 7 < (8 : Byte).toNat)
    ∧ ((withRing ⟨ring2, .running, 21, 16, none⟩ mgr).ready 0x40 (req (2 :: ringBytes))
      ∧ (withRing ⟨ring2, .running, 21, 16, none⟩ mgr).ring 2 = some ⟨ring2, .running, 21, 16, none⟩
      ∧ ringBytes.length = 15)
    ∧ RingDef.ofBytes (List.replicate 15 0) = none
    ∧ (RingDef.ofBytes ringBytes = some ring2 ∧ (∀ k, mgr.ring k = none) ∧ mgr.ready 0x40 (req (7 :: ringBytes))
      ∧ (req (7 :: ringBytes)).operands = byte (7 : Fin 8).val :: ringBytes)
    ∧ ((withRing ⟨ring2, .frozen, 21, 16, none⟩ mgr).ringOverlaps 7 ring2 = true ∧ 0 < ring2.size) := by
  and_intros <;> first | decide +kernel | exact Or.inl (by decide +kernel)

theorem test_hyp_StartStopTriggerDiscardRing :
    (mgr.ready 0x41 (req [7]) ∧ mgr.heldBy (req [7]) ∧ mgr.ring 7 = none ∧ (req [7]).operands = [byte (7 : Fin 8).val])
    ∧ ((withRing ⟨ring2, .running, 21, 16, none⟩ mgr).ready 0x43 (req [2])
      ∧ (withRing ⟨ring2, .running, 21, 16, none⟩ mgr).ring 2 = some ⟨ring2, .running, 21, 16, none⟩ ∧ ring2.postCount ≠ 0)
    ∧ ((withRing ⟨{ ring2 with postCount := 0 }, .running, 0, 0, none⟩ mgr).ready 0x43 (req [2])
      ∧ ({ ring2 with postCount := 0 } : RingDef).postCount = 0)
    ∧ ((withRing ⟨ring2, .frozen, 21, 16, none⟩ mgr).ready 0x42 (req [2])
      ∧ (withRing ⟨ring2, .frozen, 21, 16, none⟩ mgr).ring 2 = some ⟨ring2, .frozen, 21, 16, none⟩)
    ∧ ((withRing ⟨ring2, .postfill, 21, 16, some 3⟩ mgr).ready 0x45 (req [2])
      ∧ (withRing ⟨ring2, .postfill, 21, 16, some 3⟩ mgr).ring 2 = some ⟨ring2, .postfill, 21, 16, some 3⟩) := by
  and_intros <;> first | decide +kernel | exact Or.inl (by decide +kernel)

theorem test_hyp_ReadRingAnswers :
    let s := withRing ⟨ring2, .frozen, 21, 16, none⟩ mgr
    (CaptureMemory.read (ring2.base + (20 : BitVec 32).toNat % ring2.size) [(772, notice)] = some notice
      ∧ notice.header.length = 6)
    ∧ (mgr.ready 0x44 (other [8, 0, 0, 0, 0]) ∧ 7 < (8 : Byte).toNat)
    ∧ (mgr.ready 0x44 (other [7, 0, 0, 0, 0]) ∧ mgr.ring 7 = none)
    ∧ (s.ready 0x44 (other [2, 0, 0, 0, 20]) ∧ s.ring 2 = some ⟨ring2, .frozen, 21, 16, none⟩
      ∧ (word32 0 0 0 20 - (21 - BitVec.ofNat 32 16)).toNat < 16 ∧ (word32 0 0 0 5 - (21 - BitVec.ofNat 32 16)).toNat < 16)
    ∧ (16 ≤ (word32 0 0 0 21 - (21 - BitVec.ofNat 32 16)).toNat ∧ (word32 0 0 0 21 - 21).toNat < 2 ^ 31)
    ∧ (16 ≤ (word32 0 0 0 4 - (21 - BitVec.ofNat 32 16)).toNat ∧ 2 ^ 31 ≤ (word32 0 0 0 4 - 21).toNat) := by
  and_intros <;> first | decide +kernel | exact Or.inl (by decide +kernel)

theorem test_hyp_SenseConfigConfigures :
    (mgr.ready 0x50 (req [4, 0, 0, 0]) ∧ mgr.heldBy (req [4, 0, 0, 0]) ∧ 3 < (4 : Byte).toNat)
    ∧ (mgr.ready 0x50 (req [3, 2, 0, 0]) ∧ 1 < (2 : Byte).toNat ∧ mgr.ready 0x50 (req [3, 1, 0, 4]) ∧ 3 < (4 : Byte).toNat)
    ∧ (mgr.ready 0x50 (req [3, 1, 255, 3]) ∧ (3 : Byte) = byte (3 : Fin 4).val ∧ (1 : Byte) = Polarity.activeLow.code
      ∧ (3 : Byte) = Edges.both.code)
    ∧ (rawState .activeLow (mgr.input 3).level ≠ (mgr.input 3).debounced
      ∧ before (mgr.input 3).nextSample (mgr.time + 2550) = true ∧ before (mgr.input 3).nextSample (mgr.time + 0) = false)
    ∧ rawState .activeHigh (mgr.input 3).level = (mgr.input 3).debounced := by
  and_intros <;> first | decide +kernel | exact Or.inl (by decide +kernel)

theorem test_hyp_ReadSenseAnswers :
    (mgr.ready 0x51 (other [0]) ∧ (other [0]).operands ≠ []) ∧ (mgr.ready 0x51 (other []) ∧ (other []).operands = []) := by
  and_intros <;> first | decide +kernel | exact Or.inl (by decide +kernel)

end Sys2Proof.Tests
end

section
/-! SUPPORT. SET_ROUTE and READ_ROUTE (R30, R31): the route map read after a write, what each check of the two commands
answers, and the two statements. -/
namespace Sys2Proof.Machine

variable {s : State} {q : Req} {code : Byte}

/-! ## Checks and answers (R157) -/

@[simp] theorem operands_requestOf (code : Byte) (q : Req) : (requestOf code q).operands = q.operands := rfl

/-- The claim check of a request passes for the holder of the claim. -/
theorem owned_of_heldBy (h : s.heldBy q) (k : Reply × State) : owned (requestOf code q) s k = k :=
  if_pos (decide_eq_true h)

/-- The claim check refuses everyone else. -/
theorem owned_of_not_heldBy (h : ¬s.heldBy q) (k : Reply × State) :
    owned (requestOf code q) s k = refuse .notOwner s :=
  if_neg fun hk => h (of_decide_eq_true hk)

/-- A write command executed for the holder answers OK and starts the lease (R163). -/
theorem executed_eq_leased (results : List Byte) (s : State) : executed results s = (.answer .ok results, s.leased) := rfl

/-! ## Codes of targets -/

@[simp] theorem Target.ofByte_code (t : Target) : Target.ofByte t.code = some t := by
  cases t <;> rfl

/-- A byte above 4 names no target (R30). -/
theorem Target.ofByte_eq_none {x : Byte} (h : 4 < x.toNat) : Target.ofByte x = none := by
  have ne {y : Byte} (hy : y.toNat ≤ 4) : x ≠ y := by
    rintro rfl
    omega
  simp [Target.ofByte, ne]

/-! ## The route map -/

/-- An entry of the map after a range write: the target inside the range, the old entry outside. -/
theorem getElem_routesSet (first last : Nat) (t : Target) (routes : Vector Target 127) (i : Fin 127) :
    (routesSet first last t routes)[i] = if first ≤ i.val ∧ i.val ≤ last then t else routes[i] := by
  simp [routesSet]

/-- The entries of a run of the route map, shortened to end at address 126 (R31). -/
def State.routeTargets (s : State) (first count : Nat) : List Target := (s.routes.toList.drop first).take count

theorem State.routeRun_eq (s : State) (first count : Nat) :
    s.routeRun first count = (s.routeTargets first count).map Target.code := rfl

@[simp] theorem State.length_routeTargets (s : State) (first count : Nat) :
    (s.routeTargets first count).length = min count (127 - first) := by
  simp [State.routeTargets]

theorem State.getElem?_routeTargets (s : State) {first count j : Nat} (hj : j < count) (h : first + j < 127) :
    (s.routeTargets first count)[j]? = some s.routes[first + j] := by
  simp [State.routeTargets, hj, h]

/-! ## SET_ROUTE (R30) -/

theorem run_setRoute : run (requestOf 0x12 q) s = runSetRoute (requestOf 0x12 q) s := rfl

theorem runSetRoute_not_heldBy (h : ¬s.heldBy q) : runSetRoute (requestOf code q) s = refuse .notOwner s :=
  owned_of_not_heldBy h _

theorem runSetRoute_bad_length (h : s.heldBy q) (hl : q.operands.length ≠ 3) :
    runSetRoute (requestOf code q) s = refuse .badLength s := by
  rw [runSetRoute, owned_of_heldBy h]
  split
  · next ho => exact absurd (congrArg List.length ho) hl
  · rfl

section
variable {a b x : Byte} (h : s.heldBy q) (ho : q.operands = [a, b, x])
include h ho

theorem runSetRoute_bad_index (hi : 126 < a.toNat ∨ 126 < b.toNat) :
    runSetRoute (requestOf code q) s = refuse .badIndex s := by
  simp [runSetRoute, owned_of_heldBy h, ho, hi]

/-- With addresses in range, a target that is none of the five or an empty range is refused. -/
theorem runSetRoute_bad_value (ha : a.toNat ≤ 126) (hb : b.toNat ≤ 126) (hv : b.toNat < a.toNat ∨ 4 < x.toNat) :
    runSetRoute (requestOf code q) s = refuse .badValue s := by
  have hi : ¬(126 < a.toNat ∨ 126 < b.toNat) := by omega
  rcases hv with hr | hx
  · cases ht : Target.ofByte x <;> simp [runSetRoute, owned_of_heldBy h, ho, hi, ht, hr]
  · simp [runSetRoute, owned_of_heldBy h, ho, hi, Target.ofByte_eq_none hx]

/-- The write: the range takes the target and the lease starts again. -/
theorem runSetRoute_ok {t : Target} (hab : a.toNat ≤ b.toNat) (hb : b.toNat ≤ 126) (hx : x = t.code) :
    runSetRoute (requestOf code q) s =
      (.answer .ok [], ({ s with routes := routesSet a.toNat b.toNat t s.routes } : State).leased) := by
  have hi : ¬(126 < a.toNat ∨ 126 < b.toNat) := by omega
  have hr : ¬b.toNat < a.toNat := by omega
  simp [runSetRoute, owned_of_heldBy h, ho, hi, hr, hx, executed_eq_leased]

end

/-! ## READ_ROUTE (R31) -/

theorem run_readRoute : run (requestOf 0x13 q) s = runReadRoute (requestOf 0x13 q) s := rfl

theorem runReadRoute_bad_length (hl : q.operands.length ≠ 2) :
    runReadRoute (requestOf code q) s = refuse .badLength s := by
  rw [runReadRoute]
  split
  · next ho => exact absurd (congrArg List.length ho) hl
  · rfl

section
variable {a n : Byte} (ho : q.operands = [a, n])
include ho

theorem runReadRoute_bad_index (ha : 126 < a.toNat) : runReadRoute (requestOf code q) s = refuse .badIndex s := by
  simp [runReadRoute, ho, ha]

theorem runReadRoute_bad_value (ha : a.toNat ≤ 126) (hn : n.toNat = 0 ∨ 56 < n.toNat) :
    runReadRoute (requestOf code q) s = refuse .badValue s := by
  have ha' : ¬126 < a.toNat := by omega
  rw [runReadRoute, operands_requestOf, ho]
  simp only [if_neg ha', if_pos hn]

/-- The answer: first address, number of entries, and the targets of the shortened run; the state stays. -/
theorem runReadRoute_ok (ha : a.toNat ≤ 126) (h1 : 1 ≤ n.toNat) (h56 : n.toNat ≤ 56) :
    runReadRoute (requestOf code q) s =
      (.answer .ok (a :: byte (min n.toNat (127 - a.toNat))
        :: (s.routeTargets a.toNat n.toNat).map Target.code), s) := by
  have ha' : ¬126 < a.toNat := by omega
  have hn : ¬(n.toNat = 0 ∨ 56 < n.toNat) := by omega
  rw [runReadRoute, operands_requestOf, ho]
  simp only [if_neg ha', if_neg hn, State.routeRun_eq, List.length_map, State.length_routeTargets]
  rfl

end

end Sys2Proof.Machine

/-! ## The statements -/

namespace Sys2Proof.Proofs

open Sys2Proof Sys2Proof.Machine

/-- Settles O47: the checks of R30 in their order, then the range write and the lease. -/
theorem setRouteWritesRange : Obligations.SetRouteWritesRange := by
  intro q s h
  have exec_eq {reply : Reply} {t : State} (hr : runSetRoute (requestOf 0x12 q) s = (reply, t)) :
      exec (.setRoute q) s = .next (t.served 0x12 q reply) := exec_of_run rfl h (run_setRoute.trans hr)
  refine ⟨fun hh => exec_eq (runSetRoute_not_heldBy hh), fun hh hl => exec_eq (runSetRoute_bad_length hh hl), ?_⟩
  intro a b x hh ho
  refine ⟨fun hi => exec_eq (runSetRoute_bad_index hh ho hi),
    fun ha hb hv => exec_eq (runSetRoute_bad_value hh ho ha hb hv), fun t hab hb hx => ?_⟩
  exact ⟨routesSet a.toNat b.toNat t s.routes, getElem_routesSet _ _ _ _, exec_eq (runSetRoute_ok hh ho hab hb hx)⟩

/-- Settles O48: the checks of R31 in their order, then the run read from the map, cut at address 126. -/
theorem readRouteAnswers : Obligations.ReadRouteAnswers := by
  intro q s h
  have exec_eq {reply : Reply} (hr : runReadRoute (requestOf 0x13 q) s = (reply, s)) :
      exec (.readRoute q) s = .next (s.served 0x13 q reply) := exec_of_run rfl h (run_readRoute.trans hr)
  refine ⟨fun hl => exec_eq (runReadRoute_bad_length hl), fun a n ho => ⟨?_, ?_, ?_⟩⟩
  · exact fun ha => exec_eq (runReadRoute_bad_index ho ha)
  · intro ha hn
    have hn' : n.toNat = 0 ∨ 56 < n.toNat := hn.imp_left (congrArg BitVec.toNat)
    exact exec_eq (runReadRoute_bad_value ho ha hn')
  · intro ha h1 h56
    refine ⟨s.routeTargets a.toNat n.toNat, s.length_routeTargets _ _, fun j hj hlt => ?_,
      exec_eq (runReadRoute_ok ho ha h1 h56)⟩
    exact s.getElem?_routeTargets (by omega) hj

end Sys2Proof.Proofs
end

section
/-! SUPPORT. Egress queues and transmitter (R84, R87, R88): what a port answers to an offer, what an offer does to the
state for each answer, what the transmitter takes, and the statement. -/
namespace Sys2Proof.Machine

/-! ## The answer of a port (R84) -/

/-- The queue that the origin of `e` fixes has room (R82, R83). -/
def PortState.hasRoom (x : PortState) (e : QueueEntry) : Prop :=
  if e.origin = .forward then x.normal.length < normalCapacity else x.urgent.length < urgentCapacity

section
variable {x : PortState} {e : QueueEntry}

/-- The line state comes first. -/
theorem PortState.answer_offline (h : x.line = .offline) : x.answer e = .offline := if_pos h

section
variable (h : x.line = .online)
include h

/-- The admin state comes second: it shuts out line traffic. -/
theorem PortState.answer_blocked (ha : x.admin = .blocked) (ho : e.origin = .forward ∨ e.origin = .sub) :
    x.answer e = .blocked := by
  simp [PortState.answer, h, ha, ho]

/-- The queue's room comes last. -/
theorem PortState.answer_accepted_or_full (ha : x.admin = .enabled ∨ e.origin = .mrs ∨ e.origin = .atn) :
    (x.hasRoom e → x.answer e = .accepted) ∧ (¬x.hasRoom e → x.answer e = .full) := by
  have online : ¬x.line = .offline := by simp [h]
  have admitted : ¬(x.admin = .blocked ∧ (e.origin = .forward ∨ e.origin = .sub)) := by
    rintro ⟨hb, ho⟩
    rcases ha with ha | ha | ha <;> simp [ha] at hb ho
  rw [PortState.answer, if_neg online, if_neg admitted, PortState.hasRoom]
  split <;> exact ⟨fun hr => if_pos hr, fun hf => if_neg hf⟩

end

end

/-! ## An offer at the state (R84, R85, R90) -/

/-- What a refusal raises: PORT/EGRESS_DROP for a full queue, then the restart of a marked frame. -/
def refusalRaises (p : Port) (e : QueueEntry) (o : Offer) (t : Time) : List Raised :=
  (if o = .full then [.attention ⟨.portEgressDrop, portByte p, t, none, none⟩] else [])
  ++ (if e.restartMark then [.restart] else [])

/-- A refused offer is counted at its port and raises what the refusal calls for; nothing else changes. -/
theorem State.enqueue_eq_of_refused {s : State} {p : Port} {e : QueueEntry} {o : Offer}
    (h : (s.port p).answer e = o) (ho : o ≠ .accepted) :
    s.enqueue p e = { s.setPort p ((s.port p).countRefusal o) with
      raised := s.raised ++ refusalRaises p e o s.time } := by
  subst h
  unfold State.enqueue
  split
  · next ha => exact absurd ha ho
  · by_cases hf : (s.port p).answer e = .full <;> cases hm : e.restartMark <;>
      simp [refusalRaises, hf, hm, State.raise, State.raiseEvent, State.setPort, State.time]

/-! ## The transmitter's choice (R87, R88) -/

section
variable {x : PortState} {now : Moment} {e : QueueEntry} {rest : List QueueEntry}

theorem PortState.startNext_urgent (hl : x.line = .online) (ht : x.transmitter = .idle) (hu : x.urgent = e :: rest) :
    x.startNext now =
      { x with urgent := rest, transmitter := .sending e (now.after (transmissionFifths e.frame)) } := by
  simp only [PortState.startNext, hl, ht, hu]

theorem PortState.startNext_normal (hl : x.line = .online) (ht : x.transmitter = .idle) (hu : x.urgent = [])
    (hn : x.normal = e :: rest) :
    x.startNext now =
      { x with normal := rest, transmitter := .sending e (now.after (transmissionFifths e.frame)) } := by
  simp only [PortState.startNext, hl, ht, hu, hn]

theorem PortState.startNext_eq_self
    (h : x.line = .offline ∨ x.transmitter ≠ .idle ∨ (x.urgent = [] ∧ x.normal = [])) : x.startNext now = x := by
  unfold PortState.startNext
  rcases h with hl | ht | ⟨hu, hn⟩
  · rw [hl]
  · split
    · next _ hidle => exact absurd hidle ht
    · rfl
  · rw [hu, hn]
    split <;> rfl

end

end Sys2Proof.Machine

/-! ## The statement -/

namespace Sys2Proof.Proofs

open Sys2Proof Sys2Proof.Machine

/-- Settles O19: the three checks of R84 in their order, then the acceptance; and the transmitter's choice of R87. -/
theorem offersAndTheTransmitter : Obligations.OffersAndTheTransmitter := by
  refine ⟨fun p e s => ⟨fun hl => ?offline, fun hl ha ho => ?blocked, fun hl ha hr => ?full, fun hl ha hr => ?accepted⟩,
    fun x now => ⟨fun e rest => PortState.startNext_urgent, fun e rest => PortState.startNext_normal,
      PortState.startNext_eq_self⟩⟩
  case offline => exact State.enqueue_eq_of_refused (PortState.answer_offline hl) (by simp)
  case blocked => exact State.enqueue_eq_of_refused (PortState.answer_blocked hl ha ho) (by simp)
  case full =>
    have refused := State.enqueue_eq_of_refused ((PortState.answer_accepted_or_full hl ha).2 hr) (by simp)
    simpa [refusalRaises, PortState.countRefusal] using refused
  case accepted => exact State.enqueue_accepted s ((PortState.answer_accepted_or_full hl ha).1 hr)

end Sys2Proof.Proofs
end

section
/-! SUPPORT. READ_SENSE (R153, R179): the bytes of one input, what the command answers, and the statement. -/
namespace Sys2Proof.Machine

variable {s : State} {q : Req} {code : Byte}

/-! ## The operand count (R157) -/

/-- The length check passes for a request that carries exactly `n` operand bytes. -/
theorem sized_of_length_eq {n : Nat} (h : q.operands.length = n) (k : Reply × State) :
    sized n (requestOf code q) s k = k :=
  if_pos h

/-- The length check refuses every other request. -/
theorem sized_of_length_ne {n : Nat} (h : q.operands.length ≠ n) (k : Reply × State) :
    sized n (requestOf code q) s k = refuse .badLength s :=
  if_neg h

/-! ## The bytes of one input (R179) -/

/-- The eight bytes that READ_SENSE gives for one input. -/
def Sense.readBytes (x : Sense) : List Byte := x.stateBytes ++ x.configBytes

section
variable {x : Sense}

theorem Sense.readBytes_of_absent (h : x.qualification = none) :
    x.readBytes = [levelCode x.level, (rawState x.polarity x.level).code, x.debounced.code, 0, 0,
      x.polarity.code, x.debounce, x.edges.code] := by
  rw [Sense.readBytes, Sense.stateBytes, h]
  rfl

theorem Sense.readBytes_of_running {t : Qualification} (h : x.qualification = some t) :
    x.readBytes = [levelCode x.level, (rawState x.polarity x.level).code, x.debounced.code, 1, t.target.code,
      x.polarity.code, x.debounce, x.edges.code] := by
  rw [Sense.readBytes, Sense.stateBytes, h]
  rfl

end

/-! ## READ_SENSE (R153) -/

theorem run_readSense : run (requestOf 0x51 q) s = runReadSense (requestOf 0x51 q) s := rfl

theorem runReadSense_bad_length (h : q.operands ≠ []) :
    runReadSense (requestOf code q) s = refuse .badLength s :=
  sized_of_length_ne (mt List.length_eq_zero_iff.1 h) _

/-- The answer: the four inputs in turn; the state stays, and no lease starts. -/
theorem runReadSense_ok (h : q.operands = []) :
    runReadSense (requestOf code q) s =
      (.answer .ok ((s.input 0).readBytes ++ (s.input 1).readBytes ++ (s.input 2).readBytes
        ++ (s.input 3).readBytes), s) := by
  rw [runReadSense, sized_of_length_eq (List.length_eq_zero_iff.2 h)]
  simp [inputIndices, answerOk, Sense.readBytes]

end Sys2Proof.Machine

/-! ## The statement -/

namespace Sys2Proof.Proofs

open Sys2Proof Sys2Proof.Machine

/-- Settles O60: the length check of R153, then the bytes of R179 for the four inputs, with the state kept. -/
theorem readSenseAnswers : Obligations.ReadSenseAnswers := by
  intro q s h
  have exec_eq {reply : Reply} (hr : runReadSense (requestOf 0x51 q) s = (reply, s)) :
      exec (.readSense q) s = .next (s.served 0x51 q reply) := exec_of_run rfl h (run_readSense.trans hr)
  refine ⟨fun ho => exec_eq (runReadSense_bad_length ho), fun ho => ?_⟩
  intro bytes
  have bytes_eq (i : Fin 4) : bytes i = (s.input i).readBytes := by
    cases hq : (s.input i).qualification with
    | none => simp [bytes, hq, Sense.readBytes_of_absent hq]
    | some t => simp [bytes, hq, Sense.readBytes_of_running hq]
  rw [bytes_eq, bytes_eq, bytes_eq, bytes_eq]
  exact exec_eq (runReadSense_ok ho)

end Sys2Proof.Proofs
end

section
/-! SUPPORT. CLAIM, RELEASE (R162) and READ_PARAM (R165): the holder's address as results give it, the parameter a
number names and the value it reads as, what each of the three commands answers, and the statements. -/
namespace Sys2Proof.Machine

variable {s : State} {q : Req} {code : Byte}

/-! ## Holder and requester (R161) -/

theorem State.holds_requestOf : s.holds (requestOf code q) = true ↔ s.heldBy q := decide_eq_true_iff

theorem State.not_heldBy_of_none (h : s.agent.holder = none) : ¬s.heldBy q := by
  simp [State.heldBy, h]

/-- One station holds the claim at a time. -/
theorem State.not_heldBy_of_other {a : Address} (h : s.agent.holder = some a) (ha : a ≠ q.requester) : ¬s.heldBy q := by
  simp [State.heldBy, h, ha]

theorem State.holderByte_of_none (h : s.agent.holder = none) : s.holderByte = 0xFF := by
  rw [State.holderByte, h]
  rfl

theorem State.holderByte_of_some {a : Address} (h : s.agent.holder = some a) : s.holderByte = a.setWidth 8 := by
  rw [State.holderByte, h]
  exact BitVec.ofNat_toNat 8 a

/-! ## CLAIM (R162) -/

theorem run_claim : run (requestOf 0x02 q) s = runClaim (requestOf 0x02 q) s := rfl

theorem runClaim_bad_length (h : q.operands ≠ []) : runClaim (requestOf code q) s = refuse .badLength s :=
  sized_of_length_ne (mt List.length_eq_zero_iff.1 h) _

section
variable (ho : q.operands = [])
include ho

/-- A free claim, or the requester's own, becomes the requester's, and the lease starts again (R163). -/
theorem runClaim_ok (h : s.agent.holder = none ∨ s.heldBy q) :
    runClaim (requestOf code q) s =
      (.answer .ok (q.requester.setWidth 8 :: be16 s.params.leaseTime), (s.setHolder (some q.requester)).leased) := by
  have free : s.agent.holder = none ∨ s.holds (requestOf code q) = true := h.imp_right State.holds_requestOf.2
  rw [runClaim, sized_of_length_eq (List.length_eq_zero_iff.2 ho), if_pos free, executed_eq_leased]
  rfl

theorem runClaim_not_owner (hn : s.agent.holder ≠ none) (h : ¬s.heldBy q) :
    runClaim (requestOf code q) s = (.answer .notOwner [s.holderByte], s) := by
  have taken : ¬(s.agent.holder = none ∨ s.holds (requestOf code q) = true) :=
    not_or_intro hn (mt State.holds_requestOf.1 h)
  rw [runClaim, sized_of_length_eq (List.length_eq_zero_iff.2 ho), if_neg taken]

end

/-! ## RELEASE (R162) -/

theorem run_release : run (requestOf 0x03 q) s = runRelease (requestOf 0x03 q) s := rfl

theorem runRelease_bad_length (h : q.operands ≠ []) : runRelease (requestOf code q) s = refuse .badLength s :=
  sized_of_length_ne (mt List.length_eq_zero_iff.1 h) _

section
variable (ho : q.operands = [])
include ho

/-- The holder's release leaves no holder and no lease. -/
theorem runRelease_ok (h : s.heldBy q) :
    runRelease (requestOf code q) s =
      (.answer .ok [0xFF], s.setAgent { s.agent with holder := none, lease := none }) := by
  rw [runRelease, sized_of_length_eq (List.length_eq_zero_iff.2 ho), if_pos (State.holds_requestOf.2 h), answerOk]

theorem runRelease_not_owner (h : ¬s.heldBy q) :
    runRelease (requestOf code q) s = (.answer .notOwner [s.holderByte], s) := by
  rw [runRelease, sized_of_length_eq (List.length_eq_zero_iff.2 ho), if_neg (mt State.holds_requestOf.1 h)]

end

/-! ## Numbers and values of parameters (R164, R180) -/

@[simp] theorem Param.ofByte_number (p : Param) : Param.ofByte p.number = some p := by
  cases p <;> rfl

/-- A byte that is no parameter's number names no parameter. -/
theorem Param.ofByte_eq_none {n : Byte} (h : n ∉ Param.all.map Param.number) : Param.ofByte n = none :=
  List.find?_eq_none.2 fun p hp hn => h (List.mem_map.2 ⟨p, hp, of_decide_eq_true hn⟩)

theorem State.paramValue_unmatchedPolicy :
    s.paramValue .unmatchedPolicy = if s.params.unmatchedPolicy = .forward then 0 else 1 := by
  rw [State.paramValue]
  cases s.params.unmatchedPolicy <;> rfl

theorem State.paramValue_reportAddr_of_none (h : s.params.reportAddr = none) : s.paramValue .reportAddr = 0xFF := by
  rw [State.paramValue, h]
  rfl

theorem State.paramValue_reportAddr_of_some {a : Address} (h : s.params.reportAddr = some a) :
    s.paramValue .reportAddr = a.setWidth 32 := by
  rw [State.paramValue, h]
  exact BitVec.ofNat_toNat 32 a

/-! ## READ_PARAM (R165) -/

theorem run_readParam : run (requestOf 0x04 q) s = runReadParam (requestOf 0x04 q) s := rfl

theorem runReadParam_bad_length (hl : q.operands.length ≠ 1) :
    runReadParam (requestOf code q) s = refuse .badLength s := by
  rw [runReadParam]
  split
  · next ho => exact absurd (congrArg List.length ho) hl
  · rfl

section
variable {n : Byte} (ho : q.operands = [n])
include ho

theorem runReadParam_bad_index (hn : n ∉ Param.all.map Param.number) :
    runReadParam (requestOf code q) s = refuse .badIndex s := by
  simp [runReadParam, ho, Param.ofByte_eq_none hn]

/-- The answer: the number and the value as it stands; the state stays, and no lease starts. -/
theorem runReadParam_ok {p : Param} (hn : n = p.number) :
    runReadParam (requestOf code q) s = (.answer .ok (n :: be32 (s.paramValue p)), s) := by
  simp [runReadParam, ho, hn, answerOk]

end

end Sys2Proof.Machine

/-! ## The statements -/

namespace Sys2Proof.Proofs

open Sys2Proof Sys2Proof.Machine

/-- Settles O44: the length check of both commands, then for each of them who holds the claim (R162). -/
theorem claimAndRelease : Obligations.ClaimAndRelease := by
  intro q s
  have exec_claim {reply : Reply} {t : State} (h : s.ready 0x02 q) (hr : runClaim (requestOf 0x02 q) s = (reply, t)) :
      exec (.claim q) s = .next (t.served 0x02 q reply) := exec_of_run rfl h (run_claim.trans hr)
  have exec_release {reply : Reply} {t : State} (h : s.ready 0x03 q)
      (hr : runRelease (requestOf 0x03 q) s = (reply, t)) :
      exec (.release q) s = .next (t.served 0x03 q reply) := exec_of_run rfl h (run_release.trans hr)
  refine ⟨fun ho => ⟨fun h => exec_claim h (runClaim_bad_length ho), fun h => exec_release h (runRelease_bad_length ho)⟩,
    fun ho => ⟨fun h hf => exec_claim h (runClaim_ok ho hf), fun a h hh ha => ?claimRefused,
      fun h hh => exec_release h (runRelease_ok ho hh), fun h hn => ?releaseFree, fun a h hh ha => ?releaseRefused⟩⟩
  case claimRefused =>
    rw [← State.holderByte_of_some hh]
    exact exec_claim h (runClaim_not_owner ho (by simp [hh]) (State.not_heldBy_of_other hh ha))
  case releaseFree =>
    rw [← State.holderByte_of_none hn]
    exact exec_release h (runRelease_not_owner ho (State.not_heldBy_of_none hn))
  case releaseRefused =>
    rw [← State.holderByte_of_some hh]
    exact exec_release h (runRelease_not_owner ho (State.not_heldBy_of_other hh ha))

/-- Settles O42: the two checks of R165, then each of the eleven numbers with the value its parameter reads as. -/
theorem readParamAnswers : Obligations.ReadParamAnswers := by
  intro q s h
  have exec_eq {reply : Reply} (hr : runReadParam (requestOf 0x04 q) s = (reply, s)) :
      exec (.readParam q) s = .next (s.served 0x04 q reply) := exec_of_run rfl h (run_readParam.trans hr)
  refine ⟨fun hl => exec_eq (runReadParam_bad_length hl), fun n ho =>
    ⟨fun hn => exec_eq (runReadParam_bad_index ho hn), fun v hv => ?_⟩⟩
  obtain ⟨p, hn, rfl⟩ : ∃ p : Param, n = p.number ∧ v = s.paramValue p := by
    rcases hv with ⟨hn, hv⟩ | ⟨hn, hv⟩ | ⟨hn, ⟨hnone, hv⟩ | ⟨a, hsome, hv⟩⟩ | ⟨hn, hv⟩ | ⟨hn, hv⟩ | ⟨hn, hv⟩ | ⟨hn, hv⟩
      | ⟨hn, hv⟩ | ⟨hn, hv⟩ | ⟨hn, hv⟩ | ⟨hn, hv⟩
    · exact ⟨.unmatchedPolicy, hn, hv.trans State.paramValue_unmatchedPolicy.symm⟩
    · exact ⟨.mgmtPorts, hn, hv⟩
    · exact ⟨.reportAddr, hn, hv.trans (State.paramValue_reportAddr_of_none hnone).symm⟩
    · exact ⟨.reportAddr, hn, hv.trans (State.paramValue_reportAddr_of_some hsome).symm⟩
    · exact ⟨.reportInterval, hn, hv⟩
    · exact ⟨.reportRetries, hn, hv⟩
    · exact ⟨.leaseTime, hn, hv⟩
    · exact ⟨.alertRank, hn, hv⟩
    · exact ⟨.genHop, hn, hv⟩
    · exact ⟨.stationAddr, hn, hv⟩
    · exact ⟨.revision, hn, hv⟩
    · exact ⟨.time, hn, hv⟩
  exact exec_eq (runReadParam_ok ho hn)

end Sys2Proof.Proofs
end

section
/-! SUPPORT. Egress queues in order (R82, R83, R91, R93): what each operation on one port makes of `PortState.ok`. -/
namespace Sys2Proof.Machine

variable {p : PortState}

namespace PortState.ok

/-- The transmitter takes from the head of a queue of an ONLINE port, and leaves the tail. -/
theorem startNext (h : p.ok) (now : Moment) : (p.startNext now).ok := by
  obtain ⟨hu, hn, hou, hon, hoff, hblk⟩ := h
  unfold PortState.startNext
  split
  · next hline _ =>
    have online : p.line ≠ .offline := by simp [hline]
    split
    · next e rest heq =>
      rw [heq] at hu hou hblk
      exact ⟨(Nat.le_succ _).trans hu, hn, fun x hx => hou x (.tail _ hx), hon, fun h => absurd h online,
        fun hb => ⟨(hblk hb).1, fun x hx => (hblk hb).2 x (.tail _ hx)⟩⟩
    · next e rest _ heq =>
      rw [heq] at hn hon hblk
      exact ⟨hu, (Nat.le_succ _).trans hn, hou, fun x hx => hon x (.tail _ hx), fun h => absurd h online,
        fun hb => absurd (hblk hb).1 (List.cons_ne_nil _ _)⟩
    · exact ⟨hu, hn, hou, hon, hoff, hblk⟩
  · exact ⟨hu, hn, hou, hon, hoff, hblk⟩

/-- An accepted frame finds room in the queue of its origin, at an ONLINE port that its origin may use. -/
theorem join (h : p.ok) {e : QueueEntry} (ha : p.answer e = .accepted) : (p.join e).ok := by
  obtain ⟨hu, hn, hou, hon, hoff, hblk⟩ := h
  unfold PortState.answer at ha
  split at ha
  · cases ha
  next online =>
  split at ha
  · cases ha
  next admitted =>
  have admitted' (hb : p.admin = .blocked) : e.origin ≠ .forward ∧ e.origin ≠ .sub :=
    not_or.mp fun ho => admitted ⟨hb, ho⟩
  unfold PortState.join
  split at ha
  · next forward =>
    split at ha
    · next room =>
      rw [if_pos forward]
      refine ⟨hu, by simp [normalCapacity] at room ⊢; omega, hou, fun x hx => ?_, fun h => absurd h online,
        fun hb => absurd forward (admitted' hb).1⟩
      rcases List.mem_append.mp hx with hx | hx
      · exact hon x hx
      · rw [List.mem_singleton.mp hx]
        exact forward
    · cases ha
  · next urgent =>
    split at ha
    · next room =>
      rw [if_neg urgent]
      refine ⟨by simp [urgentCapacity] at room ⊢; omega, hn, fun x hx => ?_, hon, fun h => absurd h online,
        fun hb => ⟨(hblk hb).1, fun x hx => ?_⟩⟩
      · rcases List.mem_append.mp hx with hx | hx
        · exact hou x hx
        · rw [List.mem_singleton.mp hx]
          exact urgent
      · rcases List.mem_append.mp hx with hx | hx
        · exact (hblk hb).2 x hx
        · rw [List.mem_singleton.mp hx]
          exact (admitted' hb).2
    · cases ha

/-- A refusal only moves a counter. -/
theorem countRefusal (h : p.ok) (o : Offer) : (p.countRefusal o).ok := by
  cases o <;> exact h

/-- A port whose queues and transmitter are empty is in order, whatever its line and admin states. -/
theorem of_empty (hu : p.urgent = []) (hn : p.normal = []) (ht : p.line = .offline → p.transmitter = .idle) : p.ok := by
  simpa [PortState.ok, hu, hn] using ht

theorem goOffline (p : PortState) : p.goOffline.ok := of_empty rfl rfl fun _ => rfl

theorem reset : PortState.reset.ok := of_empty rfl rfl fun _ => rfl

/-- The warm restart empties the queues and keeps the transmission. -/
theorem warm (h : p.ok) : p.warm.ok := by
  obtain ⟨-, -, -, -, hoff, -⟩ := h
  exact of_empty rfl rfl fun hl => (hoff hl).2.2

/-- A transmitter that becomes IDLE leaves the queues. -/
theorem idle (h : p.ok) : ({ p with transmitter := .idle } : PortState).ok := by
  obtain ⟨hu, hn, hou, hon, hoff, hblk⟩ := h
  exact ⟨hu, hn, hou, hon, fun hl => ⟨(hoff hl).1, (hoff hl).2.1, rfl⟩, hblk⟩

theorem held (h : p.ok) : p.held.ok := h.idle

theorem transmittedOne (h : p.ok) : p.transmittedOne.ok := h.idle

/-- A port that goes ONLINE had empty queues. -/
theorem goOnline (h : p.ok) : ({ p with line := .online, qualification := none } : PortState).ok := by
  obtain ⟨hu, hn, hou, hon, -, hblk⟩ := h
  exact ⟨hu, hn, hou, hon, nofun, hblk⟩

theorem signalValid (h : p.ok) (t : Time) : (p.signalValid t).ok := by
  unfold PortState.signalValid
  split <;> exact h

theorem receptionStart (h : p.ok) : p.receptionStart.ok := by
  unfold PortState.receptionStart
  split <;> exact h

/-- A BLOCK takes the NORMAL frames and the SUB frames away. -/
theorem block (h : p.ok) : p.block.ok := by
  unfold PortState.block
  split
  · exact h
  · obtain ⟨hu, -, hou, -, hoff, -⟩ := h
    refine ⟨(List.length_filter_le _ _).trans hu, by simp, fun e he => hou e (List.mem_filter.mp he).1, by simp,
      fun hl => ⟨by simp [(hoff hl).1], rfl, (hoff hl).2.2⟩, fun _ => ⟨rfl, fun e he => ?_⟩⟩
    simpa [QueueEntry.isSub] using (List.mem_filter.mp he).2

theorem unblock (h : p.ok) : p.unblock.ok := by
  obtain ⟨hu, hn, hou, hon, hoff, -⟩ := h
  exact ⟨hu, hn, hou, hon, hoff, nofun⟩

theorem clearGroup (h : p.ok) (g : Nat) : (p.clearGroup g).ok := by
  unfold PortState.clearGroup
  split <;> exact h

theorem countVerdict (h : p.ok) (v : Verdict) : (p.countVerdict v).ok := h

end PortState.ok

end Sys2Proof.Machine
end

section
/-! SUPPORT. The flow table in order (R34 to R39, R57): what each event makes of one entry, and of the table. -/
namespace Sys2Proof.Machine

variable {f g : Flow}

/-! ## One entry -/

/-- What the ranges of R35 say of a definition, as far as supervision rests on them. -/
theorem FlowDef.legal_ranges {d : FlowDef} (h : d.legal = true) : 1 ≤ d.lossThreshold ∧ 1 ≤ d.recovery := by
  simp only [FlowDef.legal, Bool.and_eq_true, decide_eq_true_eq] at h
  omega

theorem FlowDef.sameKey_self (d : FlowDef) : d.sameKey d = true := by simp [FlowDef.sameKey]

/-- `g` may stand in the place of the entry `f`: it is in order, under the same key and with the same hold slot. -/
structure Flow.Follows (f g : Flow) : Prop where
  ok : g.ok
  key : f.defn.sameKey g.defn = true
  slot : g.holdSlot = f.holdSlot

theorem Flow.Follows.of_defn_eq (hg : g.ok) (hd : g.defn = f.defn) (hs : g.holdSlot = f.holdSlot) : f.Follows g :=
  ⟨hg, by rw [hd, FlowDef.sameKey_self], hs⟩

/-- The counters enter no rule on the entry. -/
theorem Flow.ok.withCounters (h : f.ok) (c : FlowCounters) : ({ f with counters := c } : Flow).ok := h

theorem Flow.follows_withCounters (h : f.ok) (c : FlowCounters) : f.Follows { f with counters := c } :=
  .of_defn_eq h rfl rfl

/-- An acceptance leads to LOCKED with good count 0, or to RECOVERING with a good count below RECOVERY (R64). -/
theorem Flow.acceptState_cases (f : Flow) :
    (f.acceptState.1 = .locked ∧ f.acceptState.2.1 = 0)
    ∨ (f.acceptState.1 = .recovering ∧ 1 ≤ f.acceptState.2.1 ∧ f.acceptState.2.1 < f.defn.recovery) := by
  unfold Flow.acceptState
  split
  · exact .inl ⟨rfl, rfl⟩
  · exact .inl ⟨rfl, rfl⟩
  · exact .inl ⟨rfl, rfl⟩
  · exact .inl ⟨rfl, rfl⟩
  · split
    · exact .inl ⟨rfl, rfl⟩
    · next more => exact .inr ⟨rfl, Nat.le_refl 1, Nat.lt_of_not_le more⟩
  · split
    · exact .inl ⟨rfl, rfl⟩
    · next more => exact .inr ⟨rfl, Nat.le_add_left 1 f.good, Nat.lt_of_not_le more⟩

/-- An accepted frame within the length range leaves the entry in order (R63, R64). -/
theorem Flow.ok.accept (h : f.ok) (t : Time) {x : Frame}
    (hlen : f.defn.lenMin ≤ x.payload.length ∧ x.payload.length ≤ f.defn.lenMax) : (f.accept t x).ok := by
  obtain ⟨hlegal, -, hslot, hcontent⟩ := h
  refine ⟨hlegal, ?_, hslot, fun c hc => ?_⟩
  · show Flow.fieldsOk (f.accept t x)
    unfold Flow.fieldsOk
    rcases f.acceptState_cases with ⟨hst, hgood⟩ | ⟨hst, hge, hlt⟩
    · have state : (f.accept t x).state = .locked := hst
      rw [state]
      exact ⟨rfl, rfl, rfl, hgood, rfl⟩
    · have state : (f.accept t x).state = .recovering := hst
      rw [state]
      exact ⟨rfl, rfl, rfl, hge, hlt, rfl⟩
  · have held : (if f.holdSlot.isSome then some x.payload else f.holdContent) = some c := hc
    split at held
    · next hs =>
      cases held
      exact ⟨hs, hlen⟩
    · exact hcontent c held

theorem Flow.follows_acceptAndGate (h : f.ok) (t : Time) (gateOpen : Bool) (c : FlowCounters) (causes : List Cause)
    {x : Frame} (hlen : f.defn.lenMin ≤ x.payload.length ∧ x.payload.length ≤ f.defn.lenMax) :
    f.Follows (Flow.acceptAndGate t gateOpen x causes { f with counters := c }).flow :=
  .of_defn_eq ((h.withCounters c).accept t hlen) rfl rfl

theorem Flow.follows_fromSequence (h : f.ok) (t : Time) (gateOpen : Bool) (c : FlowCounters) (causes : List Cause)
    {x : Frame} (hlen : f.defn.lenMin ≤ x.payload.length ∧ x.payload.length ≤ f.defn.lenMax) :
    f.Follows (Flow.fromSequence t gateOpen x causes { f with counters := c }).flow := by
  unfold Flow.fromSequence
  split
  · exact Flow.follows_withCounters h _
  · exact Flow.follows_withCounters h _
  · exact Flow.follows_acceptAndGate h t gateOpen _ _ hlen
  · exact Flow.follows_acceptAndGate h t gateOpen _ _ hlen

/-- Supervision of an arrival leaves the entry in order, under its definition and with its slot (section 4.2). -/
theorem Flow.follows_onArrival (h : f.ok) (t : Time) (gateOpen : Bool) (p : Port) (x : Frame) :
    f.Follows (f.onArrival t gateOpen p x).flow := by
  unfold Flow.onArrival
  split
  · exact Flow.follows_withCounters h _
  split
  · exact Flow.follows_withCounters h _
  next hlen =>
  rw [not_or, Nat.not_lt, Nat.not_lt] at hlen
  split
  · dsimp only
    split
    · exact Flow.follows_withCounters h _
    · exact Flow.follows_fromSequence h t gateOpen _ _ hlen
  · exact Flow.follows_fromSequence h t gateOpen f.counters _ hlen

/-- The entry as it is LOST: no schedule, good count 0, the misses at the threshold (R57, R69, R70). -/
theorem Flow.follows_lose (hop : BitVec 4) (hlegal : f.defn.legal = true)
    (hslot : f.holdSlot.isSome = f.defn.needsHold)
    (hcontent : ∀ c, f.holdContent = some c →
      f.holdSlot.isSome ∧ f.defn.lenMin ≤ c.length ∧ c.length ≤ f.defn.lenMax)
    (hseq : f.lastSeq.isSome) (hmiss : f.misses = f.defn.lossThreshold) (hsubs : f.subs ≤ f.defn.subLimit) :
    f.Follows (f.lose hop).flow := by
  unfold Flow.lose
  dsimp only
  split <;> exact .of_defn_eq ⟨hlegal, ⟨rfl, hseq, hmiss, rfl, hsubs⟩, hslot, hcontent⟩ rfl rfl

/-- A miss below the threshold leads to OVERDUE, one at the threshold to LOST (R68, R69, R73). -/
theorem Flow.follows_miss (h : f.ok) (gateOpen : Bool) (hop : BitVec 4) (e : Time) (c : FlowCounters)
    (hst : f.state = .locked ∨ f.state = .overdue) :
    f.Follows (Flow.miss gateOpen hop e { f with counters := c }).flow := by
  obtain ⟨hlegal, hfields, hslot, hcontent⟩ := h
  obtain ⟨hthreshold, -⟩ := FlowDef.legal_ranges hlegal
  have fields : f.lastSeq.isSome ∧ f.misses < f.defn.lossThreshold ∧ f.good = 0 ∧ f.subs ≤ f.defn.subLimit := by
    unfold Flow.fieldsOk at hfields
    rcases hst with hst | hst <;> rw [hst] at hfields
    · obtain ⟨-, hseq, hm, hg, hs⟩ := hfields
      exact ⟨hseq, by omega, hg, by omega⟩
    · obtain ⟨-, hseq, -, hm, hg, hs⟩ := hfields
      exact ⟨hseq, hm, hg, hs⟩
  obtain ⟨hseq, hmiss, hgood, hsubs⟩ := fields
  unfold Flow.miss
  dsimp only
  split
  · next below =>
    split
    · next content hsub =>
      have room : f.subs < f.defn.subLimit := by
        unfold Flow.toSubstitute at hsub
        split at hsub
        · next hc => simp at hc; omega
        · cases hsub
      exact .of_defn_eq ⟨hlegal, ⟨rfl, hseq, Nat.le_add_left 1 _, below, hgood, room⟩, hslot, hcontent⟩ rfl rfl
    · exact .of_defn_eq ⟨hlegal, ⟨rfl, hseq, Nat.le_add_left 1 _, below, hgood, hsubs⟩, hslot, hcontent⟩ rfl rfl
  · next reached =>
    have lost := Flow.follows_lose (f := { f with misses := f.misses + 1, counters := c }) hop hlegal hslot hcontent hseq
      (by show f.misses + 1 = f.defn.lossThreshold; omega) hsubs
    exact ⟨lost.ok, lost.key, lost.slot⟩

/-- A deadline expiry leaves the entry in order, under its definition and with its slot (section 4.3). -/
theorem Flow.follows_onExpiry (h : f.ok) {gateOpen : Bool} {hop : BitVec 4} {r : Expired}
    (hr : f.onExpiry gateOpen hop = some r) : f.Follows r.flow := by
  unfold Flow.onExpiry at hr
  dsimp only at hr
  split at hr
  · next hst _ =>
    cases hr
    exact Flow.follows_miss h gateOpen hop _ _ (.inl hst)
  · next hst _ =>
    cases hr
    exact Flow.follows_miss h gateOpen hop _ _ (.inr hst)
  · next hst _ =>
    cases hr
    obtain ⟨hlegal, hfields, hslot, hcontent⟩ := h
    unfold Flow.fieldsOk at hfields
    rw [hst] at hfields
    obtain ⟨-, hseq, -, -, -, hsubs⟩ := hfields
    have lost := Flow.follows_lose
      (f := { f with misses := f.defn.lossThreshold, counters := { f.counters with missed := f.counters.missed + 1 } })
      hop hlegal hslot hcontent hseq rfl (by show f.subs ≤ _; omega)
    exact ⟨lost.ok, lost.key, lost.slot⟩
  · cases hr

/-- An entry stopped or armed keeps its definition, slot and content (R44, R45). -/
theorem Flow.follows_cleared (h : f.ok) {st : FlowState} (hst : st = .disabled ∨ st = .armed) :
    f.Follows (f.cleared st) := by
  obtain ⟨hlegal, -, hslot, hcontent⟩ := h
  refine .of_defn_eq ⟨hlegal, ?_, hslot, hcontent⟩ rfl rfl
  rcases hst with rfl | rfl <;> exact ⟨rfl, rfl, rfl, rfl, rfl⟩

/-- An entry armed, its hold content dropped (R44). -/
theorem Flow.follows_armed (h : f.ok) : f.Follows { f.cleared .armed with holdContent := none } := by
  obtain ⟨hlegal, -, hslot, -⟩ := h
  exact .of_defn_eq ⟨hlegal, ⟨rfl, rfl, rfl, rfl, rfl⟩, hslot, nofun⟩ rfl rfl

/-- The warm restart of an entry (R55). -/
theorem Flow.follows_warm (h : f.ok) : f.Follows f.warm := by
  obtain ⟨hlegal, -, hslot, -⟩ := h
  refine .of_defn_eq ⟨hlegal, ?_, hslot, nofun⟩ rfl rfl
  unfold Flow.fieldsOk Flow.warm
  by_cases hd : f.state = .disabled <;> simp [hd]

/-- An entry with a new period and new tolerances (R42). -/
theorem Flow.follows_retimed (h : f.ok) {period early late : Nat} (hp : 1 ≤ period) (hp' : period ≤ 65535)
    (he : early ≤ period - 1) (hl : late ≤ period - 1) :
    f.Follows { f with defn := { f.defn with period, early, late } } := by
  obtain ⟨hlegal, hfields, hslot, hcontent⟩ := h
  refine ⟨⟨?_, hfields, hslot, hcontent⟩, by simp [FlowDef.sameKey], rfl⟩
  simp only [FlowDef.legal, Bool.and_eq_true, decide_eq_true_eq] at hlegal ⊢
  simp_all

/-- An entry just loaded with a legal definition (R41). -/
theorem Flow.ok_loaded {d : FlowDef} {slot : Option (Fin 16)} (hd : d.legal = true)
    (hs : slot.isSome = d.needsHold) : (Flow.loaded d slot).ok :=
  ⟨hd, ⟨rfl, rfl, rfl, rfl, rfl⟩, hs, nofun⟩

/-- What 23 bytes give is a legal definition (R35, R176). -/
theorem FlowDef.legal_of_ofBytes {l : List Byte} {d : FlowDef} (h : FlowDef.ofBytes l = some d) : d.legal = true := by
  unfold FlowDef.ofBytes at h
  split at h
  · simp only [Option.bind_eq_bind, Option.bind_eq_some_iff] at h
    obtain ⟨_, _, _, _, _, _, _, _, _, _, _, _, _, _, h⟩ := h
    split at h
    · next hl =>
      cases h
      exact hl.2.2.2.2
    · cases h
  · cases h

/-! ## The table -/

section
variable {s t : State} {i : Fin 64}

/-- Whatever an update of one entry leaves elsewhere stays as it was. -/
theorem State.flow_setFlow (s : State) (i j : Fin 64) (x : Option Flow) :
    (s.setFlow i x).flow j = if j = i then x else s.flow j := by
  split
  · next h => rw [h, s.flow_setFlow_same]
  · next h => exact s.flow_setFlow_ne h x

theorem FlowDef.sameKey_comm (d e : FlowDef) : d.sameKey e = e.sameKey d := by
  simp only [FlowDef.sameKey, eq_comm]

/-- Equal keys meet the same keys. -/
theorem FlowDef.sameKey_congr {d e : FlowDef} (h : d.sameKey e = true) (x : FlowDef) : e.sameKey x = d.sameKey x := by
  simp only [FlowDef.sameKey, decide_eq_true_eq] at h
  obtain ⟨hsrc, hdst, hch⟩ := h
  simp [FlowDef.sameKey, hsrc, hdst, hch]

/-- A table in order stays so when each entry gives way to one that follows it, or to none. -/
theorem State.flowsOk_of_follows (hs : s.flowsOk)
    (h : ∀ i g, t.flow i = some g → ∃ f, s.flow i = some f ∧ (f.ok → f.Follows g)) : t.flowsOk := by
  obtain ⟨hok, hkeys, hslots⟩ := hs
  refine ⟨fun i g hg => ?_, fun i j f g hij hf hg => ?_, fun i j f g k hij hf hg hk => ?_⟩
  · obtain ⟨f, hf, hfollows⟩ := h i g hg
    exact (hfollows (hok i f hf)).ok
  · obtain ⟨f', hf', hff⟩ := h i f hf
    obtain ⟨g', hg', hgg⟩ := h j g hg
    rw [FlowDef.sameKey_congr (hff (hok i f' hf')).key, FlowDef.sameKey_comm,
      FlowDef.sameKey_congr (hgg (hok j g' hg')).key, FlowDef.sameKey_comm]
    exact hkeys i j f' g' hij hf' hg'
  · obtain ⟨f', hf', hff⟩ := h i f hf
    obtain ⟨g', hg', hgg⟩ := h j g hg
    rw [(hff (hok i f' hf')).slot] at hk
    rw [(hgg (hok j g' hg')).slot]
    exact hslots i j f' g' k hij hf' hg' hk

/-- An entry may give way to one that follows it. -/
theorem State.flowsOk_setFlow (hs : s.flowsOk) (hf : s.flow i = some f) (h : f.ok → f.Follows g) :
    (s.setFlow i (some g)).flowsOk := by
  refine State.flowsOk_of_follows hs fun j x hx => ?_
  rw [s.flow_setFlow] at hx
  split at hx
  · next hj =>
    cases hx
    exact ⟨f, hj ▸ hf, h⟩
  · exact ⟨x, hx, fun hok => .of_defn_eq hok rfl rfl⟩

/-- An entry may become invalid. -/
theorem State.flowsOk_setFlow_none (hs : s.flowsOk) (i : Fin 64) : (s.setFlow i none).flowsOk := by
  refine State.flowsOk_of_follows hs fun j x hx => ?_
  rw [s.flow_setFlow] at hx
  split at hx
  · cases hx
  · exact ⟨x, hx, fun hok => .of_defn_eq hok rfl rfl⟩

/-- An entry may be loaded under a key no other entry carries, with a slot no other entry holds (R34, R38). -/
theorem State.flowsOk_setFlow_new (hs : s.flowsOk) (hg : g.ok)
    (hkey : ∀ j f, j ≠ i → s.flow j = some f → f.defn.sameKey g.defn = false)
    (hslot : ∀ j f k, j ≠ i → s.flow j = some f → g.holdSlot = some k → f.holdSlot ≠ some k) :
    (s.setFlow i (some g)).flowsOk := by
  obtain ⟨hok, hkeys, hslots⟩ := hs
  simp only [State.flowsOk, s.flow_setFlow]
  refine ⟨fun j f hf => ?_, fun j k f f' hjk hf hf' => ?_, fun j k f f' slot hjk hf hf' hk => ?_⟩
  · split at hf
    · cases hf
      exact hg
    · exact hok j f hf
  · split at hf
    · next hj =>
      cases hf
      rw [if_neg fun hk => hjk (hj.trans hk.symm)] at hf'
      rw [FlowDef.sameKey_comm]
      exact hkey k f' (fun hk => hjk (hj.trans hk.symm)) hf'
    · next hj =>
      split at hf'
      · cases hf'
        exact hkey j f hj hf
      · exact hkeys j k f f' hjk hf hf'
  · split at hf
    · next hj =>
      cases hf
      rw [if_neg fun hk => hjk (hj.trans hk.symm)] at hf'
      exact hslot k f' slot (fun hk => hjk (hj.trans hk.symm)) hf' hk
    · next hj =>
      split at hf'
      · cases hf'
        exact fun h => hslot j f slot hj hf h hk
      · exact hslots j k f f' slot hjk hf hf' hk

end

end Sys2Proof.Machine
end

section
/-! SUPPORT. The capture unit in order (R130 to R133): what each event makes of one ring, and of the unit. -/
namespace Sys2Proof.Machine

variable {r x : Ring}

/-! ## One ring -/

/-- What R132 says of base and size: a power of two from 8 to 512, its base a multiple of it within the memory. -/
theorem RingDef.legal_slots {d : RingDef} (h : d.legal = true) : 8 ≤ d.size ∧ d.size ≤ 512 ∧ d.base + d.size ≤ 1024 := by
  simp only [RingDef.legal, Bool.and_eq_true, decide_eq_true_eq, List.contains_iff_mem, List.mem_cons,
    List.not_mem_nil, or_false] at h
  obtain ⟨⟨⟨⟨⟨⟨hsize, hbase⟩, haligned⟩, -⟩, -⟩, -⟩, -⟩ := h
  rcases hsize with hs | hs | hs | hs | hs | hs | hs <;> rw [hs] at haligned ⊢ <;> omega

theorem RingDef.legal_postCount {d : RingDef} (h : d.legal = true) : d.postCount ≤ d.size - 1 := by
  simp only [RingDef.legal, Bool.and_eq_true, decide_eq_true_eq] at h
  exact h.2

/-- Every record of a legal ring has its slot in capture memory. -/
theorem Ring.slot_lt (h : r.defn.legal = true) (n : BitVec 32) : r.slot n < 1024 := by
  obtain ⟨hpos, -, hend⟩ := RingDef.legal_slots h
  have : n.toNat % r.defn.size < r.defn.size := Nat.mod_lt _ (by omega)
  unfold Ring.slot
  omega

/-- A ring that is not in POSTFILL is in order without `remaining`. -/
theorem Ring.ok_of_remaining_none (hlegal : r.defn.legal = true) (hheld : r.held ≤ r.defn.size)
    (hst : r.state ≠ .postfill) (hrem : r.remaining = none) : r.ok := by
  refine ⟨hlegal, hheld, ?_⟩
  split
  · next h => exact absurd h hst
  · exact hrem
  · exact hrem
  · exact hrem

/-- Only a ring in POSTFILL has `remaining`. -/
theorem Ring.ok.remaining_none (h : r.ok) (hst : r.state ≠ .postfill) : r.remaining = none := by
  obtain ⟨-, -, hrem⟩ := h
  split at hrem
  · next hp => exact absurd hp hst
  · exact hrem
  · exact hrem
  · exact hrem

theorem Ring.ok.remaining_some (h : r.ok) (hst : r.state = .postfill) :
    ∃ n, r.remaining = some n ∧ 1 ≤ n ∧ n ≤ r.defn.size - 1 := by
  obtain ⟨-, -, hrem⟩ := h
  rwa [hst] at hrem

/-- The write freezes the ring: it was the last of a POSTFILL, or the last slot of a STOP ring (R135). -/
def Ring.freezes (r : Ring) : Prop :=
  (r.state = .postfill ∧ r.remaining = some 1) ∨ (r.defn.mode = .stop ∧ r.next.toNat = r.defn.size - 1)

theorem Ring.advance_of_freezes (h : r.freezes) :
    r.advance = ⟨r.defn, .frozen, r.next + 1, min (r.held + 1) r.defn.size, none⟩ := by
  unfold Ring.advance
  rcases h with ⟨hst, hrem⟩ | ⟨hmode, hnext⟩
  · simp [hst, hrem]
  · simp [hmode, hnext]

theorem Ring.advance_of_not_freezes (hok : r.ok) (h : ¬r.freezes) :
    r.advance = ⟨r.defn, r.state, r.next + 1, min (r.held + 1) r.defn.size, r.remaining.map (· - 1)⟩ := by
  obtain ⟨hpost, hstop⟩ := not_or.mp h
  have last : ¬(r.state = .postfill ∧ r.remaining.map (· - 1) = some 0) := by
    rintro ⟨hst, hrem⟩
    obtain ⟨n, hn, hpos, -⟩ := hok.remaining_some hst
    have : n = 1 := by simp [hn] at hrem; omega
    exact hpost ⟨hst, this ▸ hn⟩
  have frozen : (decide (r.state = .postfill) && decide (r.remaining.map (· - 1) = some 0)
      || (decide (r.defn.mode = .stop) && decide (r.next.toNat = r.defn.size - 1))) = false := by
    simpa only [Bool.or_eq_false_iff, ← Bool.decide_and, decide_eq_false_iff_not] using ⟨last, hstop⟩
  simp only [Ring.advance, frozen, Bool.false_eq_true, if_false]

/-- A write keeps the ring in order (R134, R135). -/
theorem Ring.ok.advance (h : r.ok) : r.advance.ok := by
  have ⟨hlegal, _, _⟩ := h
  by_cases hf : r.freezes
  · rw [Ring.advance_of_freezes hf]
    exact ok_of_remaining_none hlegal (Nat.min_le_right _ _) nofun rfl
  · rw [Ring.advance_of_not_freezes h hf]
    by_cases hst : r.state = .postfill
    · obtain ⟨n, hn, hpos, hle⟩ := h.remaining_some hst
      have : n ≠ 1 := fun h1 => hf (.inl ⟨hst, h1 ▸ hn⟩)
      refine ⟨hlegal, Nat.min_le_right _ _, ?_⟩
      simp only [hst, hn, Option.map_some]
      exact ⟨n - 1, rfl, by omega, by omega⟩
    · exact ok_of_remaining_none hlegal (Nat.min_le_right _ _) hst (by simp [h.remaining_none hst])

/-- A trigger keeps the ring in order (R137). -/
theorem Ring.ok.trigger (h : r.ok) : r.trigger.ok := by
  have ⟨hlegal, hheld, _⟩ := h
  unfold Ring.trigger
  split
  · split
    · exact ok_of_remaining_none hlegal hheld nofun rfl
    · next hpos => exact ⟨hlegal, hheld, r.defn.postCount, rfl, Nat.pos_of_ne_zero hpos, RingDef.legal_postCount hlegal⟩
  · exact h

theorem Ring.trigger_defn (r : Ring) : r.trigger.defn = r.defn := by
  unfold Ring.trigger
  split
  · split <;> rfl
  · rfl

theorem Ring.ok.started (h : r.ok) : r.started.ok := ok_of_remaining_none h.1 (Nat.zero_le _) nofun rfl

theorem Ring.ok.stopped (h : r.ok) : r.stopped.ok := ok_of_remaining_none h.1 h.2.1 nofun rfl

theorem Ring.ok_defined {d : RingDef} (h : d.legal = true) : (Ring.defined d).ok :=
  ok_of_remaining_none h (Nat.zero_le _) nofun rfl

theorem Ring.ok.warm (h : r.ok) : r.warm.ok := by
  unfold Ring.warm
  split
  · exact h
  · exact ok_of_remaining_none h.1 (Nat.zero_le _) nofun rfl

theorem Ring.warm_defn (r : Ring) : r.warm.defn = r.defn := by
  unfold Ring.warm
  split <;> rfl

/-- What 15 bytes give is a legal definition (R132, R176). -/
theorem RingDef.legal_of_ofBytes {l : List Byte} {d : RingDef} (h : RingDef.ofBytes l = some d) : d.legal = true := by
  unfold RingDef.ofBytes at h
  split at h
  · simp only [Option.bind_eq_bind, Option.bind_eq_some_iff] at h
    obtain ⟨_, _, _, _, _, _, h⟩ := h
    split at h
    · next hl =>
      cases h
      exact hl.2
    · cases h
  · cases h

/-! ## The unit -/

section
variable {s t : State} {k : Fin 8}

theorem State.ring_setRing (s : State) (k j : Fin 8) (x : Option Ring) :
    (s.setRing k x).ring j = if j = k then x else s.ring j := by
  split
  · next h => rw [h, s.ring_setRing_same]
  · next h => exact s.ring_setRing_ne h x

theorem RingDef.overlaps_comm (d e : RingDef) : d.overlaps e = e.overlaps d := Bool.and_comm _ _

/-- Rings may give way to rings in order under the same definitions. -/
theorem State.captureOk_of_defn (hs : s.captureOk) (hm : t.capture.memory.wf = true)
    (h : ∀ k x, t.ring k = some x → ∃ r, s.ring k = some r ∧ (r.ok → x.ok) ∧ x.defn = r.defn) : t.captureOk := by
  obtain ⟨hok, hdisjoint, -⟩ := hs
  refine ⟨fun k x hx => ?_, fun j k a b hjk ha hb => ?_, hm⟩
  · obtain ⟨r, hr, himp, -⟩ := h k x hx
    exact himp (hok k r hr)
  · obtain ⟨a', ha', -, hda⟩ := h j a ha
    obtain ⟨b', hb', -, hdb⟩ := h k b hb
    rw [hda, hdb]
    exact hdisjoint j k a' b' hjk ha' hb'

/-- A ring may give way to a ring in order under the same definition. -/
theorem State.captureOk_setRing (hs : s.captureOk) (hr : s.ring k = some r) (hx : r.ok → x.ok)
    (hd : x.defn = r.defn) : (s.setRing k (some x)).captureOk := by
  refine State.captureOk_of_defn hs hs.2.2 fun j y hy => ?_
  rw [s.ring_setRing] at hy
  split at hy
  · next hj =>
    cases hy
    exact ⟨r, hj ▸ hr, hx, hd⟩
  · exact ⟨y, hy, id, rfl⟩

theorem State.captureOk_setRing_none (hs : s.captureOk) (k : Fin 8) : (s.setRing k none).captureOk := by
  refine State.captureOk_of_defn hs hs.2.2 fun j y hy => ?_
  rw [s.ring_setRing] at hy
  split at hy
  · cases hy
  · exact ⟨y, hy, id, rfl⟩

/-- A ring may be defined on slots no other ring owns (R140). -/
theorem State.captureOk_setRing_new (hs : s.captureOk) (hx : x.ok)
    (hfree : ∀ j r, j ≠ k → s.ring j = some r → r.defn.overlaps x.defn = false) :
    (s.setRing k (some x)).captureOk := by
  obtain ⟨hok, hdisjoint, hm⟩ := hs
  simp only [State.captureOk, s.ring_setRing]
  refine ⟨fun j r hr => ?_, fun i j a b hij ha hb => ?_, hm⟩
  · split at hr
    · cases hr
      exact hx
    · exact hok j r hr
  · split at ha
    · next hi =>
      cases ha
      rw [if_neg fun hj => hij (hi.trans hj.symm)] at hb
      rw [RingDef.overlaps_comm]
      exact hfree j b (fun hj => hij (hi.trans hj.symm)) hb
    · next hi =>
      split at hb
      · cases hb
        exact hfree i a hi ha
      · exact hdisjoint i j a b hij ha hb

/-- A legal ring writes within capture memory, and the memory keeps its canonical form. -/
theorem State.captureOk_setMemory (hs : s.captureOk) (hr : s.ring k = some r) (n : BitVec 32) (c : CaptureRecord) :
    (s.setMemory (s.capture.memory.write (r.slot n) c)).captureOk :=
  have ⟨hok, hdisjoint, hm⟩ := hs
  ⟨hok, hdisjoint, CaptureMemory.wf_write (Ring.slot_lt (hok k r hr).1 n) c hm⟩

end

end Sys2Proof.Machine
end

section
/-! SUPPORT. The attention list (R100 to R103, R106): the place and the id of a new record, the record an event is added to,
the record an acknowledgement names; and what each of these makes of `Attention.ok`. -/
namespace Sys2Proof.Machine

variable {a : Attention} {e : AttentionEvent} {r : AttentionRecord}

/-! ## Record ids (R106) -/

/-- The id `k` places after `c`, from 65535 to 1. -/
def candidateId (c k : Nat) : Nat := (c - 1 + k) % 65535 + 1

theorem candidateId_range (c k : Nat) : 1 ≤ candidateId c k ∧ candidateId c k ≤ 65535 := by
  unfold candidateId
  omega

theorem candidateId_zero {c : Nat} (h1 : 1 ≤ c) (h2 : c ≤ 65535) : candidateId c 0 = c := by
  unfold candidateId
  omega

theorem candidateId_nextRecordId {c : Nat} (h1 : 1 ≤ c) (h2 : c ≤ 65535) (k : Nat) :
    candidateId (nextRecordId c) k = candidateId c (k + 1) := by
  unfold candidateId nextRecordId
  split <;> omega

theorem nextRecordId_range {c : Nat} (h : c ≤ 65535) : 1 ≤ nextRecordId c ∧ nextRecordId c ≤ 65535 := by
  unfold nextRecordId
  split <;> omega

/-- The search passes over ids in use, and stops at the first that is free or at the end of its fuel. -/
theorem freshId_eq_candidateId (used : List Nat) (n : Nat) : ∀ {c : Nat}, 1 ≤ c → c ≤ 65535 →
    ∃ k, k ≤ n ∧ freshId used n c = candidateId c k ∧ (∀ j, j < k → candidateId c j ∈ used)
      ∧ (k < n → candidateId c k ∉ used) := by
  induction n with
  | zero => exact fun h1 h2 => ⟨0, Nat.le_refl 0, (candidateId_zero h1 h2).symm, nofun, nofun⟩
  | succ n ih =>
    intro c h1 h2
    unfold freshId
    split
    · next hused =>
      have ⟨hn1, hn2⟩ := nextRecordId_range h2
      obtain ⟨k, hk, heq, hbefore, hfree⟩ := ih hn1 hn2
      simp only [candidateId_nextRecordId h1 h2] at heq hbefore hfree
      refine ⟨k + 1, Nat.succ_le_succ hk, heq, fun j hj => ?_, fun h => hfree (Nat.lt_of_succ_lt_succ h)⟩
      cases j with
      | zero => simpa [candidateId_zero h1 h2] using hused
      | succ j => exact hbefore j (Nat.lt_of_succ_lt_succ hj)
    · next hfree =>
      exact ⟨0, Nat.zero_le _, (candidateId_zero h1 h2).symm, nofun,
        fun _ => by simpa [candidateId_zero h1 h2] using hfree⟩

/-- Among one more candidate than there are ids in use, one is free. -/
theorem freshId_spec {used : List Nat} (hlen : used.length < 65535) {c : Nat} (h1 : 1 ≤ c) (h2 : c ≤ 65535) :
    ∃ k, freshId used used.length c = candidateId c k ∧ (∀ j, j < k → candidateId c j ∈ used)
      ∧ candidateId c k ∉ used := by
  obtain ⟨k, hk, heq, hbefore, hfree⟩ := freshId_eq_candidateId used used.length h1 h2
  refine ⟨k, heq, hbefore, fun hmem => ?_⟩
  have last : k = used.length := Nat.le_antisymm hk (Nat.le_of_not_lt fun h => hfree h hmem)
  have nodup : ((List.range (k + 1)).map (candidateId c)).Nodup := by
    refine List.Nodup.map_on (fun i hi j hj hij => ?_) List.nodup_range
    rw [List.mem_range] at hi hj
    unfold candidateId at hij
    omega
  have subset : (List.range (k + 1)).map (candidateId c) ⊆ used := by
    intro y hy
    obtain ⟨j, hj, rfl⟩ := List.mem_map.mp hy
    rcases Nat.lt_succ_iff_lt_or_eq.mp (List.mem_range.mp hj) with hj | rfl
    · exact hbefore j hj
    · exact hmem
  have := (nodup.subperm subset).length_le
  simp only [List.length_map, List.length_range] at this
  omega

/-! ## The place of a new record (R101) -/

/-- The new record comes after every record of its rank or a more urgent one, and before the others. -/
theorem insertRecord_eq (r : AttentionRecord) {l : List AttentionRecord}
    (hl : l.Pairwise (fun x y => x.rank ≤ y.rank)) :
    ∃ before after, l = before ++ after ∧ (∀ x ∈ before, x.rank ≤ r.rank) ∧ (∀ x ∈ after, r.rank < x.rank)
      ∧ insertRecord r l = before ++ r :: after := by
  induction l with
  | nil => exact ⟨[], [], rfl, nofun, nofun, rfl⟩
  | cons x rest ih =>
    obtain ⟨hx, hrest⟩ := List.pairwise_cons.mp hl
    unfold insertRecord
    split
    · next hle =>
      obtain ⟨before, after, heq, hb, ha, hins⟩ := ih hrest
      exact ⟨x :: before, after, by rw [heq]; rfl, List.forall_mem_cons.mpr ⟨hle, hb⟩, ha, by rw [hins]; rfl⟩
    · next hlt =>
      have hlt := Nat.lt_of_not_le hlt
      exact ⟨[], x :: rest, rfl, nofun, List.forall_mem_cons.mpr ⟨hlt, fun y hy => Nat.lt_of_lt_of_le hlt (hx y hy)⟩, rfl⟩

/-! ## The record of an event (R102) -/

theorem AttentionRecord.matchesEvent_iff : r.matchesEvent e = true ↔ r.cause = e.cause ∧ r.object = e.object := by
  simp [AttentionRecord.matchesEvent]

/-- Where no two records share cause and object, the event goes to the one record that matches it. -/
theorem addToRecord_eq_map {l : List AttentionRecord}
    (hl : l.Pairwise (fun x y => ¬(x.cause = y.cause ∧ x.object = y.object))) (hr : r ∈ l)
    (he : r.matchesEvent e = true) : addToRecord e l = l.map (fun x => if x = r then r.add e else x) := by
  obtain ⟨hcause, hobject⟩ := AttentionRecord.matchesEvent_iff.mp he
  induction l with
  | nil => cases hr
  | cons x rest ih =>
    obtain ⟨hx, hrest⟩ := List.pairwise_cons.mp hl
    rcases List.mem_cons.mp hr with rfl | hr
    · have others : rest.map (fun y => if y = r then r.add e else y) = rest := by
        refine (List.map_congr_left fun y hy => if_neg ?_).trans (List.map_id' rest)
        rintro rfl
        exact hx y hy ⟨rfl, rfl⟩
      simp [addToRecord, he, others]
    · have hne : x ≠ r := by
        rintro rfl
        exact hx x hr ⟨rfl, rfl⟩
      have hno : ¬x.matchesEvent e = true := fun h => by
        obtain ⟨hc, ho⟩ := AttentionRecord.matchesEvent_iff.mp h
        exact hx r hr ⟨hc.trans hcause.symm, ho.trans hobject.symm⟩
      simp [addToRecord, hno, hne, ih hrest hr]

/-! ## The record of an acknowledgement (R124) -/

/-- The first record of an id is replaced or removed. -/
theorem replaceRecord_append {n : Nat} {before after : List AttentionRecord} (hb : ∀ x ∈ before, x.id ≠ n)
    (hr : r.id = n) (x : Option AttentionRecord) :
    replaceRecord n x (before ++ r :: after) = before ++ x.toList ++ after := by
  induction before with
  | nil => simp [replaceRecord, hr]
  | cons y rest ih =>
    obtain ⟨hy, hrest⟩ := List.forall_mem_cons.mp hb
    simp [replaceRecord, hy, ih hrest]

/-- In a list without two records of one id, the record that a split shows is the one its id finds. -/
theorem find?_id_append {n : Nat} {before after : List AttentionRecord} (hb : ∀ x ∈ before, x.id ≠ n)
    (hr : r.id = n) : (before ++ r :: after).find? (fun x => decide (x.id = n)) = some r :=
  List.find?_eq_some_iff_append.mpr ⟨decide_eq_true hr, before, after, rfl, fun x hx => by simp [hb x hx]⟩

/-- The record an id finds splits the list, with no record of that id before it. -/
theorem exists_append_of_find?_id {n : Nat} {l : List AttentionRecord}
    (h : l.find? (fun x => decide (x.id = n)) = some r) :
    ∃ before after, l = before ++ r :: after ∧ r.id = n ∧ ∀ x ∈ before, x.id ≠ n := by
  obtain ⟨hr, before, after, heq, hb⟩ := List.find?_eq_some_iff_append.mp h
  exact ⟨before, after, heq, of_decide_eq_true hr, fun x hx => by simpa using hb x hx⟩

/-- What an item leaves of its record has its id, cause, object and rank, and a count from 1 on not greater than its
count (R124). -/
theorem AttentionRecord.ack_record {c : Nat} {x : AttentionRecord} (hcount : 1 ≤ r.count)
    (h : (r.ack c).record = some x) :
    x.id = r.id ∧ x.cause = r.cause ∧ x.object = r.object ∧ x.rank = r.rank ∧ 1 ≤ x.count ∧ x.count ≤ r.count := by
  unfold AttentionRecord.ack at h
  split at h
  · cases h
    exact ⟨rfl, rfl, rfl, rfl, hcount, Nat.le_refl _⟩
  next hrange =>
  rw [not_or, Nat.not_lt] at hrange
  split at h
  · split at h
    · cases h
      exact ⟨rfl, rfl, rfl, rfl, Nat.le_refl 1, hcount⟩
    · cases h
  · next hne =>
    cases h
    have : c < r.count := Nat.lt_of_le_of_ne hrange.2 hne
    exact ⟨rfl, rfl, rfl, rfl, by show 1 ≤ r.count - c; omega, Nat.sub_le _ _⟩

/-! ## The list in order -/

namespace Attention.ok

/-- Fewer records, a smaller lost count and other settings keep the list in order. -/
theorem sublist (h : a.ok) {rs : List AttentionRecord} (hrs : rs.Sublist a.records) {lost : Nat} (hlost : lost ≤ a.lost)
    (causes : Vector CauseSetting 17) : ({ a with records := rs, lost := lost, causes := causes } : Attention).ok := by
  obtain ⟨hlen, hrank, hkey, hid, hrange, hl, hnext⟩ := h
  exact ⟨hrs.length_le.trans hlen, hrank.sublist hrs, hkey.sublist hrs, hid.sublist hrs,
    fun r hr => hrange r (hrs.subset hr), hlost.trans hl, hnext⟩

/-- A change of the records that keeps rank, cause, object and id, and the range of the count. -/
theorem map (h : a.ok) {f : AttentionRecord → AttentionRecord}
    (hf : ∀ x, (f x).rank = x.rank ∧ (f x).cause = x.cause ∧ (f x).object = x.object ∧ (f x).id = x.id)
    (hcount : ∀ x ∈ a.records, 1 ≤ (f x).count ∧ (f x).count ≤ 255) :
    ({ a with records := a.records.map f } : Attention).ok := by
  obtain ⟨hlen, hrank, hkey, hid, hrange, hrest⟩ := h
  refine ⟨by simpa using hlen, ?_, ?_, ?_, fun y hy => ?_, hrest⟩
  · simpa only [List.pairwise_map, hf] using hrank
  · simpa only [List.pairwise_map, hf] using hkey
  · simpa only [List.pairwise_map, hf] using hid
  · obtain ⟨x, hx, rfl⟩ := List.mem_map.mp hy
    obtain ⟨h1, h2, -⟩ := hrange x hx
    rw [(hf x).2.2.2]
    exact ⟨h1, h2, hcount x hx⟩

/-- A record may give way to one with its id, cause, object and rank, and a count in range. -/
theorem replace (h : a.ok) {before after : List AttentionRecord} {x : AttentionRecord}
    (heq : a.records = before ++ r :: after) (hid : x.id = r.id) (hcause : x.cause = r.cause)
    (hobject : x.object = r.object) (hrank : x.rank = r.rank) (hcount : 1 ≤ x.count ∧ x.count ≤ 255) :
    ({ a with records := before ++ x :: after } : Attention).ok := by
  have hrx : 1 ≤ x.id ∧ x.id ≤ 65535 := by
    obtain ⟨-, -, -, -, hrange, -⟩ := h
    obtain ⟨h1, h2, -⟩ := hrange r (by simp [heq])
    rw [hid]
    exact ⟨h1, h2⟩
  unfold Attention.ok at h
  rw [heq] at h
  simp only [List.length_append, List.length_cons, List.pairwise_append, List.pairwise_cons, List.mem_cons,
    List.mem_append, ← hid, ← hcause, ← hobject, ← hrank, or_imp, forall_and, forall_eq] at h
  simp only [Attention.ok, List.length_append, List.length_cons, List.pairwise_append, List.pairwise_cons,
    List.mem_cons, List.mem_append, or_imp, forall_and, forall_eq]
  tauto

/-- A record with a new key and a new id may join at its place by rank. -/
theorem insert (h : a.ok) (hlen : a.records.length < 32)
    (hkey : ∀ x ∈ a.records, ¬(x.cause = r.cause ∧ x.object = r.object)) (hid : ∀ x ∈ a.records, x.id ≠ r.id)
    (hr : 1 ≤ r.id ∧ r.id ≤ 65535 ∧ 1 ≤ r.count ∧ r.count ≤ 255) {next : Nat} (hnext : 1 ≤ next ∧ next ≤ 65535) :
    ({ a with records := insertRecord r a.records, nextId := next } : Attention).ok := by
  obtain ⟨-, hrank, hkeys, hids, hrange, hlost, -⟩ := h
  obtain ⟨before, after, heq, hb, ha, hins⟩ := insertRecord_eq r hrank
  have perm : (insertRecord r a.records).Perm (r :: a.records) := by
    rw [hins, heq]
    exact List.perm_middle
  refine ⟨by rw [perm.length_eq]; exact hlen, ?_, ?_, ?_, fun x hx => ?_, hlost, hnext⟩
  · show (insertRecord r a.records).Pairwise _
    rw [heq] at hrank
    obtain ⟨hb', ha', hba⟩ := List.pairwise_append.mp hrank
    rw [hins]
    refine List.pairwise_append.mpr ⟨hb', List.pairwise_cons.mpr ⟨fun x hx => Nat.le_of_lt (ha x hx), ha'⟩,
      fun x hx y hy => ?_⟩
    rcases List.mem_cons.mp hy with rfl | hy
    · exact hb x hx
    · exact hba x hx y hy
  · refine (perm.pairwise_iff fun h h' => h ⟨h'.1.symm, h'.2.symm⟩).mpr (List.pairwise_cons.mpr ⟨fun x hx h => ?_, hkeys⟩)
    exact hkey x hx ⟨h.1.symm, h.2.symm⟩
  · exact (perm.pairwise_iff Ne.symm).mpr (List.pairwise_cons.mpr ⟨fun x hx h => hid x hx h.symm, hids⟩)
  · rcases List.mem_cons.mp (perm.mem_iff.mp hx) with rfl | hx
    · exact hr
    · exact hrange x hx

end Attention.ok

/-! ## An event at the list -/

theorem Attention.take_screened (h : a.screens e = true) : a.take e = (.masked, a) := if_pos h

theorem Attention.find?_matchesEvent_eq_none (h : ∀ r ∈ a.records, ¬(r.cause = e.cause ∧ r.object = e.object)) :
    a.records.find? (·.matchesEvent e) = none :=
  List.find?_eq_none.mpr fun r hr hm => h r hr (AttentionRecord.matchesEvent_iff.mp hm)

/-- An event that matches a record of a list in order is added to it (R102). -/
theorem Attention.take_added (ha : a.ok) (h : a.screens e = false) (hr : r ∈ a.records) (hc : r.cause = e.cause)
    (ho : r.object = e.object) :
    a.take e = (.added r.id, { a with records := a.records.map (fun x => if x = r then r.add e else x) }) := by
  have he : r.matchesEvent e = true := AttentionRecord.matchesEvent_iff.mpr ⟨hc, ho⟩
  have ⟨_, _, hkeys, _⟩ := ha
  have found : a.records.find? (·.matchesEvent e) = some r := by
    obtain ⟨before, after, heq⟩ := List.append_of_mem hr
    rw [heq] at hkeys ⊢
    refine List.find?_eq_some_iff_append.mpr ⟨he, before, after, rfl, fun x hx => ?_⟩
    have hne := (List.pairwise_append.mp hkeys).2.2 x hx r List.mem_cons_self
    rw [hc, ho] at hne
    simpa using mt AttentionRecord.matchesEvent_iff.mp hne
  simp [Attention.take, h, found, addToRecord_eq_map hkeys hr he]

/-- An event that matches none becomes a record while the list has room (R103). -/
theorem Attention.take_created (h : a.screens e = false)
    (hno : ∀ r ∈ a.records, ¬(r.cause = e.cause ∧ r.object = e.object)) (hlen : a.records.length < 32) :
    let id := freshId (a.records.map (·.id)) (a.records.map (·.id)).length a.nextId
    a.take e = (.created id, { a with
      records := insertRecord (a.newRecord e id) a.records, nextId := nextRecordId id }) := by
  simp only [Attention.take, h, Attention.find?_matchesEvent_eq_none hno, Bool.false_eq_true, if_false]
  exact if_pos hlen

/-- A full list loses it (R103). -/
theorem Attention.take_lost (h : a.screens e = false)
    (hno : ∀ r ∈ a.records, ¬(r.cause = e.cause ∧ r.object = e.object)) (hlen : ¬a.records.length < 32) :
    a.take e = (.lost, { a with lost := if a.lost < 65535 then a.lost + 1 else a.lost }) := by
  simp only [Attention.take, h, Attention.find?_matchesEvent_eq_none hno, Bool.false_eq_true, if_false]
  exact if_neg hlen

theorem AttentionRecord.add_keeps (e : AttentionEvent) (r : AttentionRecord) :
    (r.add e).rank = r.rank ∧ (r.add e).cause = r.cause ∧ (r.add e).object = r.object ∧ (r.add e).id = r.id :=
  ⟨rfl, rfl, rfl, rfl⟩

theorem AttentionRecord.add_count (e : AttentionEvent) (h : r.count ≤ 255) :
    (r.add e).count = min 255 (r.count + 1) := by
  simp only [AttentionRecord.add]
  split <;> omega

/-- Taking an event keeps the list in order. -/
theorem Attention.ok.take (ha : a.ok) (e : AttentionEvent) : (a.take e).2.ok := by
  have ⟨_, _, _, _, hrange, hlost, hnext1, hnext2⟩ := ha
  cases hs : a.screens e with
  | true => rwa [Attention.take_screened hs]
  | false =>
    by_cases hm : ∃ r ∈ a.records, r.cause = e.cause ∧ r.object = e.object
    · obtain ⟨r, hr, hc, ho⟩ := hm
      obtain ⟨-, -, hcount1, hcount2⟩ := hrange r hr
      rw [Attention.take_added ha hs hr hc ho]
      refine ha.map (fun x => ?_) fun x hx => ?_
      · split
        · next hx => rw [hx]; exact r.add_keeps e
        · exact ⟨rfl, rfl, rfl, rfl⟩
      · split
        · rw [AttentionRecord.add_count e hcount2]
          omega
        · exact (hrange x hx).2.2
    · have hno : ∀ r ∈ a.records, ¬(r.cause = e.cause ∧ r.object = e.object) := fun r hr h => hm ⟨r, hr, h⟩
      by_cases hlen : a.records.length < 32
      · rw [Attention.take_created hs hno hlen]
        obtain ⟨k, hk, -, hfree⟩ := freshId_spec (used := a.records.map (·.id)) (by simp; omega) hnext1 hnext2
        have ⟨h1, h2⟩ := candidateId_range a.nextId k
        rw [hk]
        refine ha.insert hlen (fun x hx => hno x hx) (fun x hx heq => hfree (List.mem_map.mpr ⟨x, hx, heq⟩))
          ⟨h1, h2, Nat.le_refl 1, by show 1 ≤ 255; omega⟩ (nextRecordId_range h2)
      · rw [Attention.take_lost hs hno hlen]
        have ⟨h1, h2, h3, h4, h5, _, h7⟩ := ha
        exact ⟨h1, h2, h3, h4, h5, by show (if a.lost < 65535 then a.lost + 1 else a.lost) ≤ 65535; split <;> omega, h7⟩

end Sys2Proof.Machine
end

section
/-! SUPPORT. The unit invariants carried from one state to another: a relation between states that composes, so that each
operation is shown once to keep every unit in order; and that relation for the operations on ports, flows, rings, the
agent's fields, the attention list and the reporter. -/
namespace Sys2Proof.Machine

/-- The agent in order, but for the rule on an IDLE agent, which does not hold inside a command (R155, R159, R161, R163). -/
def Agent.orderly (a : Agent) : Prop :=
  a.queue.length ≤ 4
  ∧ a.queue.Pairwise (fun x y => ¬(x.requester = y.requester ∧ x.tag = y.tag))
  ∧ a.cache.length ≤ 4
  ∧ a.cache.Pairwise (fun x y => x.requester ≠ y.requester)
  ∧ a.lease.isSome = a.holder.isSome

theorem Agent.ok_iff (a : Agent) : a.ok ↔ a.orderly ∧ (a.service = .idle → a.queue = []) := by
  unfold Agent.ok Agent.orderly
  tauto

/-- Every unit that is in order in `s` is in order in `t`, and the same commands wait. -/
structure State.Keeps (s t : State) : Prop where
  pending : t.pending = s.pending
  queues : s.queuesOk → t.queuesOk
  flows : s.flowsOk → t.flowsOk
  capture : s.captureOk → t.captureOk
  attention : s.attention.ok → t.attention.ok
  reporter : s.attention.ok → s.reporterOk → t.reporterOk
  agent : s.agent.orderly → t.agent.orderly

namespace State.Keeps

variable {s t u : State}

theorem refl (s : State) : s.Keeps s := ⟨rfl, id, id, id, id, fun _ => id, id⟩

theorem trans (h : s.Keeps t) (h' : t.Keeps u) : s.Keeps u where
  pending := h'.pending.trans h.pending
  queues := h'.queues ∘ h.queues
  flows := h'.flows ∘ h.flows
  capture := h'.capture ∘ h.capture
  attention := h'.attention ∘ h.attention
  reporter ha hr := h'.reporter (h.attention ha) (h.reporter ha hr)
  agent := h'.agent ∘ h.agent

/-! ## Changes that enter no rule on a unit -/

theorem raise (s : State) (x : Raised) : s.Keeps (s.raise x) := ⟨rfl, id, id, id, id, fun _ => id, id⟩

theorem withRaised (s : State) (xs : List Raised) : s.Keeps { s with raised := xs } := ⟨rfl, id, id, id, id, fun _ => id, id⟩

theorem withChoices (s : State) (n : Nat) : s.Keeps { s with choices := n } := ⟨rfl, id, id, id, id, fun _ => id, id⟩

theorem withClock (s : State) (m : Moment) : s.Keeps { s with clock := m } := ⟨rfl, id, id, id, id, fun _ => id, id⟩

theorem withAlert (s : State) (b : Bool) : s.Keeps { s with alert := b } := ⟨rfl, id, id, id, id, fun _ => id, id⟩

theorem withRoutes (s : State) (r : Vector Target 127) : s.Keeps { s with routes := r } := ⟨rfl, id, id, id, id, fun _ => id, id⟩

theorem setSweep (s : State) (w : Option Sweep) : s.Keeps (s.setSweep w) := ⟨rfl, id, id, id, id, fun _ => id, id⟩

theorem setInput (s : State) (i : Fin 4) (x : Sense) : s.Keeps (s.setInput i x) := ⟨rfl, id, id, id, id, fun _ => id, id⟩

theorem elapse (s : State) (m : Moment) : s.Keeps (s.elapse m) := by
  unfold State.elapse
  split
  · exact withClock s m
  · exact refl s

theorem elapseTo (s : State) (t : Time) : s.Keeps (s.elapseTo t) := elapse s _

theorem raiseFlows (s : State) (i : Fin 64) (quiet : Bool) (cs : List Cause) : s.Keeps (s.raiseFlows i quiet cs) := by
  rw [State.raiseFlows_eq]
  exact withRaised s _

theorem offerAll (s : State) (set : BitVec 3) (e : QueueEntry) : s.Keeps (s.offerAll set e) := by
  rw [State.offerAll_eq]
  exact withRaised s _

theorem forwardTo (s : State) (set : BitVec 3) (x : Frame) : s.Keeps (s.forwardTo set x) := offerAll s set _

theorem offerSub (s : State) (i : Fin 64) (set : BitVec 3) (x : Frame) : s.Keeps (s.offerSub i set x) :=
  (offerAll s set _).trans (raise _ _)

/-! ## Ports -/

theorem setPort {p : Port} {x : PortState} (h : (s.port p).ok → x.ok) : s.Keeps (s.setPort p x) where
  pending := rfl
  queues hs q := by
    rw [s.port_setPort]
    split
    · exact h (hs p)
    · exact hs q
  flows := id
  capture := id
  attention := id
  reporter _ := id
  agent := id

theorem enqueue (s : State) (p : Port) (e : QueueEntry) : s.Keeps (s.enqueue p e) := by
  by_cases ha : (s.port p).answer e = .accepted
  · rw [s.enqueue_accepted ha]
    exact setPort fun h => (h.join ha).startNext _
  · rw [State.enqueue_eq_of_refused rfl ha]
    exact (setPort fun h => h.countRefusal _).trans (withRaised _ _)

/-! ## Flow entries and rings -/

theorem setFlow {i : Fin 64} {f g : Flow} (hf : s.flow i = some f) (h : f.ok → f.Follows g) :
    s.Keeps (s.setFlow i (some g)) :=
  ⟨rfl, id, fun hs => State.flowsOk_setFlow hs hf h, id, id, fun _ => id, id⟩

theorem setFlow_none (s : State) (i : Fin 64) : s.Keeps (s.setFlow i none) :=
  ⟨rfl, id, fun hs => State.flowsOk_setFlow_none hs i, id, id, fun _ => id, id⟩

theorem setRing {k : Fin 8} {r x : Ring} (hr : s.ring k = some r) (hx : r.ok → x.ok) (hd : x.defn = r.defn) :
    s.Keeps (s.setRing k (some x)) :=
  ⟨rfl, id, id, fun hs => State.captureOk_setRing hs hr hx hd, id, fun _ => id, id⟩

theorem putRing {k : Fin 8} {r x : Ring} (hr : s.ring k = some r) (hx : r.ok → x.ok) (hd : x.defn = r.defn) :
    s.Keeps (s.putRing k x) := by
  unfold State.putRing
  dsimp only
  split
  · exact (setRing hr hx hd).trans (raise _ _)
  · exact setRing hr hx hd

theorem setRing_none (s : State) (k : Fin 8) : s.Keeps (s.setRing k none) :=
  ⟨rfl, id, id, fun hs => State.captureOk_setRing_none hs k, id, fun _ => id, id⟩

/-- A record written into the slot of a ring's next record. -/
theorem setMemory {k : Fin 8} {r : Ring} (hr : s.ring k = some r) (n : BitVec 32) (c : CaptureRecord) :
    s.Keeps (s.setMemory (s.capture.memory.write (r.slot n) c)) :=
  ⟨rfl, id, id, fun hs => State.captureOk_setMemory hs hr n c, id, fun _ => id, id⟩

theorem record (s : State) (n : Notice) (k : Fin 8) : s.Keeps (s.record n k) := by
  unfold State.record
  split
  · exact refl s
  next r hr =>
  split
  · exact (setMemory hr _ _).trans (putRing hr (fun h => h.advance) rfl)
  · exact refl s

theorem triggerBy (s : State) (c : Cause) (object : Byte) (k : Fin 8) : s.Keeps (s.triggerBy c object k) := by
  unfold State.triggerBy
  split
  · exact refl s
  next r hr =>
  split
  · exact putRing hr (fun h => h.trigger) r.trigger_defn
  · exact refl s

theorem foldl {α : Type} {f : State → α → State} (h : ∀ (t : State) a, t.Keeps (f t a)) (l : List α) :
    ∀ s : State, s.Keeps (l.foldl f s) := by
  induction l with
  | nil => exact refl
  | cons a rest ih => exact fun s => (h s a).trans (ih _)

theorem takeNotice (s : State) (n : Notice) : s.Keeps (s.takeNotice n) := foldl (fun t k => record t n k) _ s

theorem takeAnnounce (s : State) (c : Cause) (object : Byte) : s.Keeps (s.takeAnnounce c object) :=
  foldl (fun t k => triggerBy t c object k) _ s

/-! ## The agent's fields -/

/-- A change of the agent's fields that leaves the parameters. -/
theorem setAgent {a : Agent} (h : s.agent.orderly → a.orderly) (hp : a.params = s.params) : s.Keeps (s.setAgent a) where
  pending := rfl
  queues := id
  flows := id
  capture := id
  attention := id
  reporter _ hr := by
    obtain ⟨hok, hretries, hmarks⟩ := hr
    exact ⟨hok, by rwa [← hp] at hretries, hmarks⟩
  agent := h

/-- A change of the parameters that leaves REPORT_RETRIES in its range. -/
theorem setParams {x : Params} (h : s.params.reportRetries ≤ 15 → x.reportRetries ≤ 15) :
    s.Keeps (s.setAgent { s.agent with params := x }) where
  pending := rfl
  queues := id
  flows := id
  capture := id
  attention := id
  reporter _ hr := by
    obtain ⟨hok, hretries, hmarks⟩ := hr
    exact ⟨hok, h hretries, hmarks⟩
  agent := id

theorem withService (s : State) (v : Service) : s.Keeps (s.setAgent { s.agent with service := v }) :=
  setAgent id rfl

theorem withSweepPending (s : State) (w : Option Request) : s.Keeps (s.setAgent { s.agent with sweepPending := w }) :=
  setAgent id rfl

theorem unserveSweeping (s : State) (w : Option Request) :
    s.Keeps (s.setAgent { s.agent with service := .idle, sweepPending := w }) :=
  setAgent id rfl

/-- The claim passes to no holder, and the lease stops. -/
theorem endClaim (s : State) : s.Keeps (s.setAgent { s.agent with holder := none, lease := none }) :=
  setAgent (fun ⟨hq, hqp, hc, hcp, _⟩ => ⟨hq, hqp, hc, hcp, rfl⟩) rfl

/-- The lease of a held claim starts again. -/
theorem restartLease (h : s.agent.holder.isSome) : s.Keeps s.restartLease :=
  setAgent (fun ⟨hq, hqp, hc, hcp, _⟩ => ⟨hq, hqp, hc, hcp, h.symm⟩) rfl

end State.Keeps

/-! ## The response cache (R159) -/

theorem cacheWrite_orderly {e : CacheEntry} {l : List CacheEntry}
    (hl : l.Pairwise (fun x y => x.requester ≠ y.requester)) :
    (cacheWrite e l).length ≤ 4 ∧ (cacheWrite e l).Pairwise (fun x y => x.requester ≠ y.requester) := by
  refine ⟨by simp [cacheWrite, cacheCapacity], List.pairwise_cons.mpr ⟨fun x hx => ?_, ?_⟩⟩
  · have := (List.mem_filter.mp (List.mem_of_mem_take hx)).2
    exact fun h => of_decide_eq_true this h.symm
  · exact (hl.sublist List.filter_sublist).sublist (List.take_sublist _ _)

theorem cacheUse_orderly {e : CacheEntry} {l : List CacheEntry} (he : e ∈ l) (hlen : l.length ≤ 4)
    (hl : l.Pairwise (fun x y => x.requester ≠ y.requester)) :
    (cacheUse e l).length ≤ 4 ∧ (cacheUse e l).Pairwise (fun x y => x.requester ≠ y.requester) := by
  have perm : l.Perm (cacheUse e l) := List.perm_cons_erase he
  exact ⟨perm.length_eq ▸ hlen, (perm.pairwise_iff Ne.symm).mp hl⟩

end Sys2Proof.Machine
end

section
/-! SUPPORT. The reporter in order (R116 to R126): beginning, repeating and ending a report, and the acknowledgement of its
items, which may leave none unacknowledged until the report ends. -/
namespace Sys2Proof.Machine

variable {s t : State}

/-! ## The reporter's rule in parts -/

/-- What each state says of the outstanding report, the retry count and the timer, whether or not an item is left to
acknowledge (R116). -/
def Reporter.shape (r : Reporter) : Prop :=
  match r.state with
  | .idle => r.outstanding = [] ∧ r.retries = 0 ∧ r.timer = none
  | .waitAck => (1 ≤ r.outstanding.length ∧ r.outstanding.length ≤ 4 ∧ r.retries ≤ 15) ∧ r.timer.isSome
  | .stalled => (1 ≤ r.outstanding.length ∧ r.outstanding.length ≤ 4 ∧ r.retries ≤ 15) ∧ r.timer = none

theorem Reporter.ok_iff (r : Reporter) :
    r.ok ↔ r.shape ∧ (r.state ≠ .idle → ∃ i ∈ r.outstanding, i.acked = false) := by
  unfold Reporter.ok Reporter.shape Reporter.reportOk
  cases r.state <;> simp <;> tauto

/-- A record is REPORTED only as an item of the outstanding report that is not acknowledged. -/
def State.marksOk (s : State) : Prop :=
  ∀ r ∈ s.attention.records, r.state = .reported → ∃ i ∈ s.reporter.outstanding, i.id = r.id ∧ i.acked = false

/-- The reporter in order, but that every item of its report may be acknowledged: so it is while an ACK_ATTENTION is
executed (R124, R126). -/
def State.acking (s : State) : Prop := s.reporter.shape ∧ s.params.reportRetries ≤ 15 ∧ s.marksOk

theorem State.reporterOk.acking (h : s.reporterOk) : s.acking := by
  obtain ⟨hok, hretries, hmarks⟩ := h
  exact ⟨((Reporter.ok_iff _).mp hok).1, hretries, hmarks⟩

theorem State.acking.reporterOk (h : s.acking)
    (hleft : s.reporter.state ≠ .idle → ∃ i ∈ s.reporter.outstanding, i.acked = false) : s.reporterOk := by
  obtain ⟨hshape, hretries, hmarks⟩ := h
  exact ⟨(Reporter.ok_iff _).mpr ⟨hshape, hleft⟩, hretries, hmarks⟩

theorem Reporter.shape.outstanding_nil {r : Reporter} (h : r.shape) (hs : r.state = .idle) : r.outstanding = [] := by
  unfold Reporter.shape at h
  rw [hs] at h
  exact h.1

theorem Reporter.toIdle_shape (r : Reporter) : r.toIdle.shape := ⟨rfl, rfl, rfl⟩

/-- An IDLE reporter has no record marked REPORTED. -/
theorem State.marksOk.none_reported (h : s.marksOk) (ho : s.reporter.outstanding = []) {r : AttentionRecord}
    (hr : r ∈ s.attention.records) : r.state ≠ .reported := by
  intro hrep
  obtain ⟨i, hi, -⟩ := h r hr hrep
  rw [ho] at hi
  cases hi

/-- The reporter is IDLE and no record is REPORTED: it is in order. -/
theorem State.reporterOk_toIdle (hretries : s.params.reportRetries ≤ 15)
    (h : ∀ r ∈ s.attention.records, r.state ≠ .reported) : (s.setReporter s.reporter.toIdle).reporterOk :=
  State.acking.reporterOk ⟨Reporter.toIdle_shape _, hretries, fun r hr hrep => absurd hrep (h r hr)⟩
    fun hidle => absurd rfl hidle

/-! ## Sending and repeating a report -/

theorem Attention.ok.mapRecords {a : Attention} (h : a.ok) (ids : List Nat) {f : AttentionRecord → AttentionRecord}
    (hf : ∀ x, (f x).rank = x.rank ∧ (f x).cause = x.cause ∧ (f x).object = x.object ∧ (f x).id = x.id
      ∧ (f x).count = x.count) :
    ({ a with records := a.records.map (fun r => if ids.contains r.id then f r else r) } : Attention).ok := by
  have ⟨_, _, _, _, hrange, _⟩ := h
  refine h.map (fun x => ?_) fun x hx => ?_
  · split
    · obtain ⟨h1, h2, h3, h4, -⟩ := hf x
      exact ⟨h1, h2, h3, h4⟩
    · exact ⟨rfl, rfl, rfl, rfl⟩
  · have := (hrange x hx).2.2
    split
    · rwa [(hf x).2.2.2.2]
    · exact this

namespace State.Keeps

/-- Records are marked REPORTED only as unacknowledged items of the outstanding report. -/
theorem mapRecords_sent {ids : List Nat}
    (h : ∀ n ∈ ids, ∃ i ∈ s.reporter.outstanding, i.id = n ∧ i.acked = false) :
    s.Keeps (s.mapRecords ids AttentionRecord.sent) where
  pending := rfl
  queues := id
  flows := id
  capture := id
  attention ha := ha.mapRecords ids fun _ => ⟨rfl, rfl, rfl, rfl, rfl⟩
  reporter _ hr := by
    obtain ⟨hok, hretries, hmarks⟩ := hr
    refine ⟨hok, hretries, fun y hy hrep => ?_⟩
    obtain ⟨x, hx, rfl⟩ := List.mem_map.mp hy
    by_cases hin : ids.contains x.id
    · rw [if_pos hin]
      exact h x.id (by simpa using hin)
    · rw [if_neg hin] at hrep ⊢
      exact hmarks x hx hrep
  agent := id

theorem sendReport {ids : List Nat} (h : ∀ n ∈ ids, ∃ i ∈ s.reporter.outstanding, i.id = n ∧ i.acked = false)
    (dest : Address) : s.Keeps (s.sendReport dest ids) := by
  unfold State.sendReport
  dsimp only
  refine (mapRecords_sent h).trans (trans ?_ (raise _ _))
  split
  · exact enqueue _ _ _
  · exact refl _

/-- A report begun at an IDLE reporter has one to four items, none of them acknowledged (R117). -/
theorem setReporter_begin (hidle : s.reporter.state = .idle)
    {rs : List AttentionRecord} (hpos : rs ≠ []) (hlen : rs.length ≤ 4) (tag : Byte) (timer : Time) :
    s.Keeps (s.setReporter ⟨.waitAck, tag, (rs.map (·.id)).map (fun i => ⟨i, false⟩), 0, some timer⟩) where
  pending := rfl
  queues := id
  flows := id
  capture := id
  attention := id
  reporter _ hr := by
    obtain ⟨hshape, hretries, hmarks⟩ := hr.acking
    obtain ⟨r, rest, rfl⟩ := List.exists_cons_of_ne_nil hpos
    refine State.acking.reporterOk ⟨⟨⟨by simp, by simpa using hlen, Nat.zero_le _⟩, rfl⟩, hretries, fun x hx hrep => ?_⟩
      fun _ => ⟨⟨r.id, false⟩, by simp, rfl⟩
    exact absurd hrep (hmarks.none_reported (hshape.outstanding_nil hidle) hx)
  agent := id

theorem pollReporter (s : State) : s.Keeps s.pollReporter := by
  unfold State.pollReporter
  split
  · exact refl s
  split
  · next hbegin =>
    obtain ⟨hidle, -, hany⟩ := hbegin
    obtain ⟨r, hr, hst⟩ := List.any_eq_true.mp hany
    have pos : (s.attention.records.filter (fun r => decide (r.state = .unreported))).take 4 ≠ [] := by
      simpa using ⟨r, hr, of_decide_eq_true hst⟩
    refine (setReporter_begin hidle pos (List.length_take_le _ _) _ _).trans (sendReport (fun n hn => ?_) _)
    exact ⟨⟨n, false⟩, List.mem_map.mpr ⟨n, hn, rfl⟩, rfl, rfl⟩
  · exact refl s

/-- A report is sent again with retries left, so the retry count stays within 15 (R120). -/
theorem resendReport (hw : s.reporter.state = .waitAck) (h : s.reporter.retries < s.params.reportRetries)
    (dest : Address) : s.Keeps (s.resendReport dest) := by
  have retried : s.Keeps (s.setReporter { s.reporter with
      retries := s.reporter.retries + 1, timer := some s.ackExpiry }) :=
    ⟨rfl, id, id, id, id, fun _ hr => by
      obtain ⟨hok, hretries, hmarks⟩ := hr
      obtain ⟨hshape, hleft⟩ := (Reporter.ok_iff _).mp hok
      refine State.acking.reporterOk ⟨?_, hretries, hmarks⟩ hleft
      have hretries' : s.reporter.retries + 1 ≤ 15 := Nat.le_trans h hretries
      simp only [Reporter.shape, hw] at hshape
      obtain ⟨⟨hpos, hlen, -⟩, -⟩ := hshape
      simp only [Reporter.shape, State.reporter_setReporter, hw]
      exact ⟨⟨hpos, hlen, hretries'⟩, rfl⟩, id⟩
  refine retried.trans (sendReport (fun n hn => ?_) dest)
  obtain ⟨i, hi, rfl⟩ := List.mem_map.mp hn
  obtain ⟨hmem, hacked⟩ := List.mem_filter.mp hi
  exact ⟨i, hmem, rfl, by simpa using hacked⟩

/-- A report that has had its retries stays outstanding, with the timer stopped (R120). -/
theorem stall (hw : s.reporter.state = .waitAck) : s.Keeps s.stall :=
  ⟨rfl, id, id, id, id, fun _ hr => by
    obtain ⟨hok, hretries, hmarks⟩ := hr
    obtain ⟨hshape, hleft⟩ := (Reporter.ok_iff _).mp hok
    refine State.acking.reporterOk ⟨?_, hretries, hmarks⟩ fun _ => hleft (by simp [hw])
    simp only [Reporter.shape, hw] at hshape
    exact ⟨hshape.1, rfl⟩, id⟩

end State.Keeps

/-! ## The end of a report -/

/-- An abandoned report leaves an IDLE reporter and no record REPORTED (R121, R122). -/
theorem State.acking.abandonReport (h : s.acking) : s.abandonReport.reporterOk := by
  obtain ⟨-, hretries, hmarks⟩ := h
  refine State.reporterOk_toIdle (s := s.mapRecords (s.reporter.outstanding.map (·.id))
    (fun r => { r with state := .unreported })) hretries fun y hy hrep => ?_
  obtain ⟨x, hx, rfl⟩ := List.mem_map.mp hy
  by_cases hin : (s.reporter.outstanding.map (·.id)).contains x.id
  · rw [if_pos hin] at hrep
    cases hrep
  · rw [if_neg hin] at hrep
    obtain ⟨i, hi, hid, -⟩ := hmarks x hx hrep
    exact hin (by simpa using ⟨i, hi, hid⟩)

/-- A complete report leaves an IDLE reporter: no record on the list is REPORTED (R126). -/
theorem State.acking.complete (h : s.acking) (hc : s.reportComplete = true) :
    (s.setReporter s.reporter.toIdle).reporterOk := by
  obtain ⟨-, hretries, hmarks⟩ := h
  refine State.reporterOk_toIdle hretries fun r hr hrep => ?_
  obtain ⟨i, hi, hid, hacked⟩ := hmarks r hr hrep
  have := List.all_eq_true.mp hc i hi
  simp only [hacked, Bool.false_or, Bool.not_eq_true', List.any_eq_false] at this
  exact this r hr (by simp [hid])

/-- A report that is not complete has an item left to acknowledge. -/
theorem State.exists_unacked_of_not_complete (hc : ¬s.reportComplete = true) :
    ∃ i ∈ s.reporter.outstanding, i.acked = false := by
  simp only [State.reportComplete, List.all_eq_true, not_forall] at hc
  obtain ⟨i, hi, h⟩ := hc
  exact ⟨i, hi, by cases hk : i.acked <;> simp [hk] at h ⊢⟩

namespace State.Keeps

theorem abandonReport (s : State) : s.Keeps s.abandonReport where
  pending := rfl
  queues := id
  flows := id
  capture := id
  attention ha := ha.mapRecords _ fun _ => ⟨rfl, rfl, rfl, rfl, rfl⟩
  reporter _ hr := hr.acking.abandonReport
  agent := id

theorem leaveStall (s : State) : s.Keeps s.leaveStall := by
  unfold State.leaveStall
  split
  · exact (abandonReport s).trans (pollReporter _)
  · exact refl s

theorem stallExit (s : State) (a : Address) : s.Keeps (s.stallExit a) := by
  unfold State.stallExit
  split
  · exact leaveStall s
  · exact refl s

theorem reportAddrWritten (s : State) : s.Keeps s.reportAddrWritten := by
  unfold State.reportAddrWritten
  split
  · exact pollReporter s
  · exact (abandonReport s).trans (pollReporter _)
  · exact leaveStall s

theorem paramWritten (s : State) (p : Param) : s.Keeps (s.paramWritten p) := by
  cases p
  case reportAddr => exact reportAddrWritten s
  case reportInterval => exact leaveStall s
  case reportRetries => exact leaveStall s
  all_goals exact refl s

/-- An empty list under an IDLE reporter (R112). -/
theorem clearAttention (s : State) :
    s.Keeps ((s.setAttention { s.attention with records := [], lost := 0 }).setReporter s.reporter.toIdle) where
  pending := rfl
  queues := id
  flows := id
  capture := id
  attention ha := ha.sublist (List.nil_sublist _) (Nat.zero_le _) _
  reporter _ hr := State.reporterOk_toIdle (s := s.setAttention { s.attention with records := [], lost := 0 })
    hr.2.1 nofun
  agent := id

theorem setCauses (s : State) (v : Vector CauseSetting 17) :
    s.Keeps (s.setAttention { s.attention with causes := v }) where
  pending := rfl
  queues := id
  flows := id
  capture := id
  attention ha := ha.sublist (List.Sublist.refl _) (Nat.le_refl _) v
  reporter _ := id
  agent := id

/-! ## An event at the list -/

/-- No event makes a record REPORTED. -/
theorem setAttention_take (s : State) (e : AttentionEvent) : s.Keeps (s.setAttention (s.attention.take e).2) where
  pending := rfl
  queues := id
  flows := id
  capture := id
  attention ha := ha.take e
  reporter ha hr := by
    obtain ⟨hok, hretries, hmarks⟩ := hr
    refine ⟨hok, hretries, fun y hy hrep => ?_⟩
    have old : y ∈ s.attention.records := by
      cases hs : s.attention.screens e with
      | true => simpa [Attention.take_screened hs] using hy
      | false =>
        by_cases hm : ∃ r ∈ s.attention.records, r.cause = e.cause ∧ r.object = e.object
        · obtain ⟨r, hr, hc, ho⟩ := hm
          rw [State.attention_setAttention, Attention.take_added ha hs hr hc ho] at hy
          obtain ⟨x, hx, rfl⟩ := List.mem_map.mp hy
          by_cases hxr : x = r
          · rw [if_pos hxr] at hrep
            cases hrep
          · rwa [if_neg hxr]
        · have hno : ∀ r ∈ s.attention.records, ¬(r.cause = e.cause ∧ r.object = e.object) :=
            fun r hr h => hm ⟨r, hr, h⟩
          by_cases hlen : s.attention.records.length < 32
          · obtain ⟨-, hrank, -⟩ := ha
            rw [State.attention_setAttention, Attention.take_created hs hno hlen] at hy
            obtain ⟨before, after, heq, -, -, hins⟩ := insertRecord_eq (s.attention.newRecord e
              (freshId (s.attention.records.map (·.id)) (s.attention.records.map (·.id)).length s.attention.nextId)) hrank
            simp only [hins] at hy
            rw [heq]
            rcases List.mem_append.mp hy with hy | hy
            · exact List.mem_append_left _ hy
            · rcases List.mem_cons.mp hy with rfl | hy
              · cases hrep
              · exact List.mem_append_right _ hy
          · simpa [Attention.take_lost hs hno hlen] using hy
    exact hmarks y old hrep
  agent := id

theorem takeAttention (s : State) (e : AttentionEvent) : s.Keeps (s.takeAttention e).2 :=
  (raise s _).trans ((setAttention_take _ e).trans (pollReporter _))

end State.Keeps

/-! ## ACK_ATTENTION (R124 to R126) -/

/-- An acknowledged mark at an item of the report keeps its length. -/
theorem Reporter.shape.markAcked {r : Reporter} (h : r.shape) (n : Nat) :
    ({ r with outstanding := Machine.markAcked n r.outstanding } : Reporter).shape := by
  unfold Reporter.shape Machine.markAcked at *
  dsimp only
  split at h <;> simp_all

/-- What stands on the list after an acknowledgement and is REPORTED stood there before, under another id. -/
theorem replaceRecord_reported {n : Nat} {l : List AttentionRecord} {r x : AttentionRecord} {c : Nat}
    (hid : l.Pairwise (fun x y => x.id ≠ y.id)) (hf : l.find? (fun r => decide (r.id = n)) = some r)
    (hok : (r.ack c).status = .ok) (hx : x ∈ replaceRecord n (r.ack c).record l) (hrep : x.state = .reported) :
    x ∈ l ∧ x.id ≠ n := by
  obtain ⟨before, after, rfl, hr, hb⟩ := exists_append_of_find?_id hf
  rw [replaceRecord_append hb hr] at hx
  obtain ⟨-, hafter, -⟩ := List.pairwise_append.mp hid
  rcases List.mem_append.mp hx with hx | hx
  · rcases List.mem_append.mp hx with hx | hx
    · exact ⟨List.mem_append_left _ hx, hb x hx⟩
    · exfalso
      simp only [Option.mem_toList] at hx
      unfold AttentionRecord.ack at hok hx
      split at hok
      · cases hok
      next hrange =>
      rw [if_neg hrange] at hx
      split at hx
      · split at hx
        · next h255 =>
          cases hx
          rw [h255.2] at hrep
          cases hrep
        · cases hx
      · cases hx
        cases hrep
  · refine ⟨List.mem_append_right _ (.tail _ hx), fun h => ?_⟩
    exact (List.pairwise_cons.mp hafter).1 x hx (hr.trans h.symm)

/-- One item keeps the list in order, and the reporter but for an item left to acknowledge. -/
theorem State.ackItem_keeps (s : State) (n c : Nat) (ha : s.attention.ok) :
    (s.ackItem n c).2.attention.ok ∧ (s.acking → (s.ackItem n c).2.acking) := by
  unfold State.ackItem
  split
  · exact ⟨ha, id⟩
  next r hr =>
  dsimp only
  split
  · next hok =>
    obtain ⟨before, after, heq, hid, hb⟩ := exists_append_of_find?_id hr
    have ⟨_, _, _, hids, hrange, _⟩ := ha
    obtain ⟨-, -, hcount, hcount'⟩ := hrange r (by simp [heq])
    have list : ({ s.attention with
        records := replaceRecord n (r.ack c).record s.attention.records } : Attention).ok := by
      rw [heq, replaceRecord_append hb hid]
      cases hx : (r.ack c).record with
      | none =>
        refine ha.sublist ?_ (Nat.le_refl _) _
        rw [heq]
        simp
      | some x =>
        obtain ⟨h1, h2, h3, h4, h5, h6⟩ := AttentionRecord.ack_record hcount hx
        simpa using ha.replace heq h1 h2 h3 h4 ⟨h5, h6.trans hcount'⟩
    refine ⟨list, fun ⟨hshape, hretries, hmarks⟩ => ⟨hshape.markAcked n, hretries, fun x hx hrep => ?_⟩⟩
    obtain ⟨hmem, hne⟩ := replaceRecord_reported hids hr hok hx hrep
    obtain ⟨i, hi, hii, hacked⟩ := hmarks x hmem hrep
    refine ⟨i, List.mem_map.mpr ⟨i, hi, if_neg ?_⟩, hii, hacked⟩
    rw [hii]
    exact hne
  · exact ⟨ha, id⟩

/-- The items keep the list in order, and the reporter but for an item left to acknowledge. -/
theorem State.ackItems_keeps (items : List Byte) (s : State) (ha : s.attention.ok) :
    (s.ackItems items).2.attention.ok ∧ (s.acking → (s.ackItems items).2.acking) := by
  fun_induction State.ackItems items s with
  | case1 h l c rest s bytes t hitem more u hrest ih =>
    have item := s.ackItem_keeps (nat16 h l) c.toNat ha
    rw [hitem] at item
    have rest := ih item.1
    rw [hrest] at rest
    exact ⟨rest.1, rest.2 ∘ item.2⟩
  | case2 => exact ⟨ha, id⟩

/-- One item touches the list and the reporter alone, and not the reporter's state. -/
theorem State.ackItem_frame (s : State) (n c : Nat) :
    ∃ a r, (s.ackItem n c).2 = { s with attention := a, reporter := r } ∧ r.state = s.reporter.state := by
  unfold State.ackItem
  split
  · exact ⟨s.attention, s.reporter, rfl, rfl⟩
  · dsimp only
    split
    · exact ⟨_, _, rfl, rfl⟩
    · exact ⟨s.attention, s.reporter, rfl, rfl⟩

/-- So do the items one after another. -/
theorem State.ackItems_frame (items : List Byte) (s : State) :
    ∃ a r, (s.ackItems items).2 = { s with attention := a, reporter := r } ∧ r.state = s.reporter.state := by
  fun_induction State.ackItems items s with
  | case1 h l c rest s bytes t hitem more u hrest ih =>
    obtain ⟨a, r, hs, hr⟩ := s.ackItem_frame (nat16 h l) c.toNat
    rw [hitem] at hs
    subst hs
    rw [hrest] at ih
    obtain ⟨a', r', hs', hr'⟩ := ih
    exact ⟨a', r', hs', hr'.trans hr⟩
  | case2 => exact ⟨_, _, rfl, rfl⟩

/-- What follows the items leaves the reporter in order (R121, R126). -/
theorem State.acking.afterAck (h : s.acking) (ha : s.attention.ok) : s.afterAck.reporterOk := by
  unfold State.afterAck
  split
  · next hst =>
    unfold State.leaveStall
    rw [if_pos hst]
    exact (State.Keeps.pollReporter _).reporter ((State.Keeps.abandonReport s).attention ha) h.abandonReport
  · next hst =>
    split
    · next hc => exact (State.Keeps.pollReporter (s.setReporter s.reporter.toIdle)).reporter ha (h.complete hc)
    · next hc => exact h.reporterOk fun _ => State.exists_unacked_of_not_complete hc
  · next hst => exact (State.Keeps.pollReporter s).reporter ha (h.reporterOk fun hne => absurd hst hne)

namespace State.Keeps

theorem afterAck (s : State) : s.Keeps s.afterAck := by
  have complete : s.reportComplete = true → s.Keeps (s.setReporter s.reporter.toIdle) := fun hc =>
    ⟨rfl, id, id, id, id, fun _ hr => hr.acking.complete hc, id⟩
  unfold State.afterAck
  split
  · exact leaveStall s
  · split
    · next hc => exact (complete hc).trans (pollReporter _)
    · exact refl s
  · exact pollReporter s

/-- The items, the lost count and what follows them. -/
theorem ackAll (s : State) (items : List Byte) (lost : Nat) :
    s.Keeps (((s.ackItems items).2.ackLost lost).afterAck) := by
  obtain ⟨a, r, frame, -⟩ := s.ackItems_frame items
  have keeps := s.ackItems_keeps items
  rw [frame] at keeps ⊢
  have list (ha : s.attention.ok) : ({ a with lost := a.lost - lost } : Attention).ok :=
    (keeps ha).1.sublist (List.Sublist.refl _) (Nat.sub_le _ _) _
  have follows := afterAck (State.ackLost lost { s with attention := a, reporter := r })
  exact ⟨follows.pending, follows.queues, follows.flows, follows.capture, fun ha => follows.attention (list ha),
    fun ha hr => State.acking.afterAck (s := State.ackLost lost { s with attention := a, reporter := r })
      ((keeps ha).2 hr.acking) (list ha), follows.agent⟩

end State.Keeps

end Sys2Proof.Machine
end

section
/-! SUPPORT. The work that what is raised can still bring about: what each operation of the units adds to it at most. -/
namespace Sys2Proof.Machine

variable {s : State}

/-! ## The three parts of the work -/

/-- How many rings are recording: each may freeze once more. -/
def State.recordingRings (s : State) : Nat := ringIndices.countP (fun k => (s.ring k).any Ring.recording)

/-- What the report that an IDLE reporter may begin can raise. -/
def ReporterState.credit (r : ReporterState) : Nat := if r = .idle then 3 else 0

theorem ReporterState.credit_le (r : ReporterState) : r.credit ≤ 3 := by
  unfold credit
  split <;> omega

theorem State.work_eq (s : State) :
    s.work = (s.raised.map Raised.weight).sum + 2 * s.recordingRings + s.reporter.state.credit := by
  rw [State.work, State.recordingRings, List.countP_eq_length_filter]
  rfl

/-- The work after an operation that leaves the rings and the reporter. -/
theorem State.work_withRaised (s : State) (ys : List Raised) :
    ({ s with raised := s.raised ++ ys } : State).work = s.work + (ys.map Raised.weight).sum := by
  have rings : ({ s with raised := s.raised ++ ys } : State).recordingRings = s.recordingRings := rfl
  simp only [State.work_eq, rings, List.map_append, List.sum_append]
  omega

theorem State.work_raise (s : State) (x : Raised) : (s.raise x).work = s.work + x.weight :=
  (s.work_withRaised [x]).trans (by simp)

/-- The work in a state whose reporter changed. -/
theorem State.work_setReporter (s : State) (r : Reporter) :
    (s.setReporter r).work + s.reporter.state.credit = s.work + r.state.credit := by
  have rings : (s.setReporter r).recordingRings = s.recordingRings := rfl
  rw [State.work_eq, State.work_eq, rings]
  simp only [State.raised_setReporter, State.reporter_setReporter]
  omega

/-- A count over a list without repetitions, when one element's answer changes. -/
theorem countP_update {α : Type} [DecidableEq α] {l : List α} {p q : α → Bool} {k : α} (hl : l.Nodup) (hk : k ∈ l)
    (h : ∀ j, j ≠ k → q j = p j) :
    l.countP q + (if p k then 1 else 0) = l.countP p + (if q k then 1 else 0) := by
  have perm := List.perm_cons_erase hk
  have rest : (l.erase k).countP q = (l.erase k).countP p :=
    List.countP_congr fun j hj => by rw [h j (hl.mem_erase_iff.mp hj).1]
  rw [perm.countP_eq q, perm.countP_eq p, List.countP_cons, List.countP_cons, rest]
  omega

theorem State.recordingRings_setRing (s : State) (k : Fin 8) (x : Option Ring) :
    (s.setRing k x).recordingRings + (if (s.ring k).any Ring.recording then 1 else 0)
      = s.recordingRings + (if x.any Ring.recording then 1 else 0) := by
  have := countP_update (l := ringIndices) (k := k) (p := fun j => (s.ring j).any Ring.recording)
    (q := fun j => ((s.setRing k x).ring j).any Ring.recording) (by decide) (by revert k; decide)
    (fun j hj => by rw [s.ring_setRing_ne hj])
  simp only [s.ring_setRing_same] at this
  exact this

theorem State.work_setRing (s : State) (k : Fin 8) (x : Option Ring) :
    (s.setRing k x).work + (if (s.ring k).any Ring.recording then 2 else 0)
      = s.work + (if x.any Ring.recording then 2 else 0) := by
  have rings := s.recordingRings_setRing k x
  rw [State.work_eq, State.work_eq]
  simp only [State.raised_setRing, State.reporter_setRing]
  split at rings <;> split at rings <;> simp_all <;> omega

/-! ## Offers and reports -/

theorem sum_weight_refusalRaises (p : Port) (e : QueueEntry) (o : Offer) (t : Time) :
    ((refusalRaises p e o t).map Raised.weight).sum ≤ if e.restartMark then 6 else 2 := by
  cases o <;> cases he : e.restartMark <;> simp [refusalRaises, he, Raised.weight]

/-- An offer raises an attention event at most, and the restart of a marked frame. -/
theorem State.work_enqueue (s : State) (p : Port) (e : QueueEntry) :
    (s.enqueue p e).work ≤ s.work + if e.restartMark then 6 else 2 := by
  by_cases ha : (s.port p).answer e = .accepted
  · rw [s.enqueue_accepted ha]
    exact Nat.le_add_right s.work _
  · rw [State.enqueue_eq_of_refused rfl ha]
    exact (State.work_withRaised (s.setPort p ((s.port p).countRefusal ((s.port p).answer e))) _).le.trans
      (Nat.add_le_add_left (sum_weight_refusalRaises p e _ s.time) s.work)

/-- An ATN frame raises its notice, and an attention event where its queue is full. -/
theorem State.work_sendReport (s : State) (dest : Address) (ids : List Nat) :
    (s.sendReport dest ids).work ≤ s.work + 3 := by
  unfold State.sendReport
  dsimp only
  have marked : (s.mapRecords ids AttentionRecord.sent).work = s.work := rfl
  unfold State.offerGenerated
  rw [State.work_raise]
  split
  · next p _ =>
    have := State.work_enqueue (s.mapRecords ids AttentionRecord.sent) p
      ⟨Frame.build .atn dest s.station false 0 s.reporter.tag s.params.genHop
        (atnPayload s.attention.lost (s.attention.records.filter (fun r => ids.contains r.id))), .atn, false⟩
    simp only [Bool.false_eq_true, if_false] at this
    show _ + 1 ≤ _
    omega
  · show _ + 1 ≤ _
    omega

/-- What a report raises is what an IDLE reporter stood for. -/
theorem State.work_pollReporter (s : State) : s.pollReporter.work ≤ s.work := by
  unfold State.pollReporter
  split
  · exact Nat.le_refl _
  split
  · next hbegin =>
    unfold State.beginReport
    dsimp only
    refine (State.work_sendReport _ _ _).trans ?_
    have := State.work_setReporter s ⟨.waitAck, s.reporter.tag + 1,
      (((s.attention.records.filter (fun r => decide (r.state = .unreported))).take 4).map (·.id)).map
        (fun i => ⟨i, false⟩), 0, some s.ackExpiry⟩
    simp only [ReporterState.credit, hbegin.1, reduceCtorEq, if_true, if_false] at this
    omega
  · exact Nat.le_refl _

theorem State.work_toIdle (s : State) : (s.setReporter s.reporter.toIdle).work ≤ s.work + 3 := by
  have := s.work_setReporter s.reporter.toIdle
  have := ReporterState.credit_le s.reporter.toIdle.state
  omega

theorem State.work_abandonReport (s : State) : s.abandonReport.work ≤ s.work + 3 :=
  (s.mapRecords (s.reporter.outstanding.map (·.id)) (fun r => { r with state := .unreported })).work_toIdle

theorem State.work_leaveStall (s : State) : s.leaveStall.work ≤ s.work + 3 := by
  unfold State.leaveStall
  split
  · exact (State.work_pollReporter _).trans s.work_abandonReport
  · exact Nat.le_add_right _ _

theorem State.work_stallExit (s : State) (a : Address) : (s.stallExit a).work ≤ s.work + 3 := by
  unfold State.stallExit
  split
  · exact s.work_leaveStall
  · exact Nat.le_add_right _ _

theorem State.work_paramWritten (s : State) (p : Param) : (s.paramWritten p).work ≤ s.work + 3 := by
  cases p
  case reportAddr =>
    show s.reportAddrWritten.work ≤ _
    unfold State.reportAddrWritten
    split
    · exact (s.work_pollReporter).trans (Nat.le_add_right _ _)
    · exact (State.work_pollReporter _).trans s.work_abandonReport
    · exact s.work_leaveStall
  case reportInterval => exact s.work_leaveStall
  case reportRetries => exact s.work_leaveStall
  all_goals exact Nat.le_add_right _ _

/-- What follows an acknowledgement adds the report that an IDLE reporter may begin, at most. -/
theorem State.work_afterAck (s : State) : s.afterAck.work ≤ s.work + 3 := by
  unfold State.afterAck
  split
  · exact s.work_leaveStall
  · split
    · exact (State.work_pollReporter _).trans s.work_toIdle
    · exact Nat.le_add_right _ _
  · exact (s.work_pollReporter).trans (Nat.le_add_right _ _)

/-- An attention event adds its announcement. -/
theorem State.work_takeAttention (s : State) (e : AttentionEvent) : (s.takeAttention e).2.work ≤ s.work + 1 := by
  have announced : ((s.raise (.announce e.cause e.object)).setAttention (s.attention.take e).2).work = s.work + 1 :=
    s.work_raise _
  rw [← announced]
  exact State.work_pollReporter _

/-! ## Rings -/

/-- A recording ring that freezes raises no more than it stood for. -/
theorem State.work_putRing {k : Fin 8} {r x : Ring} (hr : s.ring k = some r) (hrec : r.recording = true) :
    (s.putRing k x).work ≤ s.work := by
  have ring := s.work_setRing k (some x)
  simp only [hr, Option.any_some, hrec, if_true] at ring
  unfold State.putRing
  dsimp only
  split
  · next hfrozen =>
    have notRec : x.recording = false := by simp [Ring.recording, hfrozen]
    simp only [notRec, Bool.false_eq_true, if_false] at ring
    have raised : ((s.setRing k (some x)).raiseFrozen k).work = (s.setRing k (some x)).work + 2 := State.work_raise _ _
    omega
  · split at ring <;> omega

theorem State.work_record (s : State) (n : Notice) (k : Fin 8) : (s.record n k).work ≤ s.work := by
  unfold State.record
  split
  · exact Nat.le_refl _
  next r hr =>
  split
  · next hacc =>
    simp only [Ring.accepts, Bool.and_eq_true] at hacc
    exact State.work_putRing (s := s.setMemory _) hr hacc.1.1.1
  · exact Nat.le_refl _

theorem State.work_triggerBy (s : State) (c : Cause) (object : Byte) (k : Fin 8) :
    (s.triggerBy c object k).work ≤ s.work := by
  unfold State.triggerBy
  split
  · exact Nat.le_refl _
  next r hr =>
  split
  · next hrun =>
    refine State.work_putRing hr ?_
    simp only [Ring.recording, (Bool.and_eq_true_iff.mp hrun).1, Bool.true_or]
  · exact Nat.le_refl _

theorem State.work_foldl {α : Type} {f : State → α → State} (h : ∀ (t : State) a, (f t a).work ≤ t.work) (l : List α) :
    ∀ s : State, (l.foldl f s).work ≤ s.work := by
  induction l with
  | nil => exact fun s => Nat.le_refl _
  | cons a rest ih => exact fun s => (ih _).trans (h s a)

/-- The warm restart stops every ring and leaves the reporter IDLE. -/
theorem State.work_warmRestart (s : State) : s.warmRestart.work ≤ s.work + 3 := by
  have rings : s.warmRestart.recordingRings = 0 := by
    refine List.countP_eq_zero.mpr fun k _ => ?_
    have : s.warmRestart.ring k = (s.ring k).map Ring.warm := by
      simp [State.ring, State.warmRestart, vmap]
    rw [this]
    cases s.ring k with
    | none => simp
    | some r =>
      simp only [Option.map_some, Option.any_some, Ring.warm]
      split
      · next h => simp [Ring.recording, h]
      · simp [Ring.recording]
  rw [State.work_eq, State.work_eq, rings]
  have := ReporterState.credit_le s.warmRestart.reporter.state
  show (s.raised.map Raised.weight).sum + _ + _ ≤ _
  omega

end Sys2Proof.Machine
end

section
/-! SUPPORT. The execution of a management command (R157): one statement for every command of what its execution keeps, and
its parts for the checks and answers that the commands share. -/
namespace Sys2Proof.Machine

variable {s t u : State} {r : Request}

/-! ## What is raised, and a stall -/

/-- What was raised stays raised, before anything new, and no stall begins; where one goes on, REPORT_ADDR stays. -/
structure State.Continues (s t : State) : Prop where
  raised : ∃ ys, t.raised = s.raised ++ ys
  stall : t.reporter.state = .stalled → s.reporter.state = .stalled ∧ t.params.reportAddr = s.params.reportAddr

namespace State.Continues

theorem of_eq (hr : t.raised = s.raised) (hrep : t.reporter = s.reporter)
    (hp : t.params.reportAddr = s.params.reportAddr) : s.Continues t :=
  ⟨⟨[], by rw [hr, List.append_nil]⟩, fun h => ⟨by rwa [← hrep], hp⟩⟩

theorem refl (s : State) : s.Continues s := of_eq rfl rfl rfl

theorem trans (h : s.Continues t) (h' : t.Continues u) : s.Continues u := by
  obtain ⟨ys, hy⟩ := h.raised
  obtain ⟨zs, hz⟩ := h'.raised
  refine ⟨⟨ys ++ zs, by rw [hz, hy, List.append_assoc]⟩, fun hu => ?_⟩
  obtain ⟨ht, hp⟩ := h'.stall hu
  obtain ⟨hs, hp'⟩ := h.stall ht
  exact ⟨hs, hp.trans hp'⟩

theorem withRaised (s : State) (ys : List Raised) : s.Continues { s with raised := s.raised ++ ys } :=
  ⟨⟨ys, rfl⟩, fun h => ⟨h, rfl⟩⟩

theorem raise (s : State) (x : Raised) : s.Continues (s.raise x) := withRaised s [x]

/-- Where the reporter is not STALLED afterwards, only what is raised matters. -/
theorem of_not_stalled (hr : ∃ ys, t.raised = s.raised ++ ys) (h : t.reporter.state ≠ .stalled) : s.Continues t :=
  ⟨hr, fun hs => absurd hs h⟩

theorem enqueue (s : State) (p : Port) (e : QueueEntry) : s.Continues (s.enqueue p e) := by
  obtain ⟨x, ys, h⟩ := s.enqueue_frame p e
  rw [h]
  exact ⟨⟨ys, rfl⟩, fun h => ⟨h, rfl⟩⟩

theorem sendReport (s : State) (dest : Address) (ids : List Nat) : s.Continues (s.sendReport dest ids) := by
  obtain ⟨rs, ps, ys, h⟩ := s.sendReport_frame dest ids
  rw [h]
  exact ⟨⟨ys, rfl⟩, fun h => ⟨h, rfl⟩⟩

end State.Continues

theorem State.sendReport_reporter (s : State) (dest : Address) (ids : List Nat) :
    (s.sendReport dest ids).reporter = s.reporter := by
  obtain ⟨rs, ps, ys, h⟩ := s.sendReport_frame dest ids
  rw [h]

/-- The reporter's look at its conditions leaves WAIT_ACK, or everything as it was. -/
theorem State.pollReporter_cases (s : State) :
    s.pollReporter = s ∨ s.reporter.state = .idle ∧ s.pollReporter.reporter.state = .waitAck := by
  unfold State.pollReporter
  split
  · exact .inl rfl
  split
  · next hbegin =>
    refine .inr ⟨hbegin.1, ?_⟩
    rw [State.beginReport, State.sendReport_reporter]
    rfl
  · exact .inl rfl

theorem State.pollReporter_not_stalled (h : s.reporter.state ≠ .stalled) : s.pollReporter.reporter.state ≠ .stalled := by
  rcases s.pollReporter_cases with hs | ⟨-, hs⟩ <;> rw [hs]
  · exact h
  · nofun

theorem State.leaveStall_not_stalled (s : State) : s.leaveStall.reporter.state ≠ .stalled := by
  unfold State.leaveStall
  split
  · exact State.pollReporter_not_stalled nofun
  · assumption

theorem State.reportAddrWritten_not_stalled (s : State) : s.reportAddrWritten.reporter.state ≠ .stalled := by
  unfold State.reportAddrWritten
  split
  · next h => exact State.pollReporter_not_stalled (by simp [h])
  · exact State.pollReporter_not_stalled nofun
  · exact s.leaveStall_not_stalled

namespace State.Continues

theorem pollReporter (s : State) : s.Continues s.pollReporter := by
  obtain ⟨rs, r, ps, ys, h⟩ := s.pollReporter_frame
  refine ⟨⟨ys, by rw [h]⟩, fun hst => ?_⟩
  rcases s.pollReporter_cases with hs | ⟨-, hs⟩
  · rw [hs] at hst ⊢
    exact ⟨hst, rfl⟩
  · rw [hs] at hst
    cases hst

theorem leaveStall (s : State) : s.Continues s.leaveStall := by
  obtain ⟨rs, r, ps, ys, h⟩ := s.leaveStall_frame
  exact of_not_stalled ⟨ys, by rw [h]⟩ s.leaveStall_not_stalled

theorem stallExit (s : State) (a : Address) : s.Continues (s.stallExit a) := by
  unfold State.stallExit
  split
  · exact leaveStall s
  · exact refl s

theorem reportAddrWritten (s : State) : ∃ ys, s.reportAddrWritten.raised = s.raised ++ ys := by
  unfold State.reportAddrWritten
  split
  · exact (pollReporter s).raised
  · exact (pollReporter s.abandonReport).raised
  · exact (leaveStall s).raised

theorem afterAck (s : State) : s.Continues s.afterAck := by
  have toIdle : s.Continues (s.setReporter s.reporter.toIdle) := of_not_stalled ⟨[], by simp⟩ nofun
  unfold State.afterAck
  split
  · exact leaveStall s
  · split
    · exact toIdle.trans (pollReporter _)
    · exact refl s
  · exact pollReporter s

theorem takeAttention (s : State) (e : AttentionEvent) : s.Continues (s.takeAttention e).2 :=
  have polled : ((s.raise (.announce e.cause e.object)).setAttention (s.attention.take e).2).Continues
      (s.takeAttention e).2 := pollReporter _
  (raise s (.announce e.cause e.object)).trans ⟨polled.raised, polled.stall⟩

theorem putRing (s : State) (k : Fin 8) (x : Ring) : s.Continues (s.putRing k x) := by
  have ring : s.Continues (s.setRing k (some x)) := of_eq rfl rfl rfl
  unfold State.putRing
  dsimp only
  split
  · exact ring.trans (raise _ _)
  · exact ring

/-- The items, the lost count and what follows them. -/
theorem ackAll (s : State) (items : List Byte) (lost : Nat) :
    s.Continues (((s.ackItems items).2.ackLost lost).afterAck) := by
  obtain ⟨a, r, frame, hst⟩ := s.ackItems_frame items
  have items : s.Continues ((s.ackItems items).2.ackLost lost) := by
    rw [frame]
    exact ⟨⟨[], by simp [State.ackLost]⟩, fun h => ⟨hst ▸ h, rfl⟩⟩
  exact items.trans (afterAck _)

end State.Continues

theorem State.work_ackAll (s : State) (items : List Byte) (lost : Nat) :
    (((s.ackItems items).2.ackLost lost).afterAck).work ≤ s.work + 3 := by
  obtain ⟨a, r, frame, hst⟩ := s.ackItems_frame items
  have same : ((s.ackItems items).2.ackLost lost).work = s.work := by
    have rings : ((s.ackItems items).2.ackLost lost).recordingRings = s.recordingRings := by rw [frame]; rfl
    rw [State.work_eq, State.work_eq, rings, frame]
    simp only [State.ackLost, State.setAttention, hst]
  rw [← same]
  exact State.work_afterAck _

/-! ## Operations that leave the agent alone -/

theorem State.pollReporter_agent (s : State) : s.pollReporter.agent = s.agent := by
  obtain ⟨rs, r, ps, ys, h⟩ := s.pollReporter_frame
  rw [h]

theorem State.leaveStall_agent (s : State) : s.leaveStall.agent = s.agent := by
  obtain ⟨rs, r, ps, ys, h⟩ := s.leaveStall_frame
  rw [h]

theorem State.takeAttention_agent (s : State) (e : AttentionEvent) : (s.takeAttention e).2.agent = s.agent := by
  obtain ⟨a, r, ps, ys, h⟩ := s.takeAttention_frame e
  rw [h]

theorem State.paramWritten_agent (s : State) (p : Param) : (s.paramWritten p).agent = s.agent := by
  cases p
  case reportAddr =>
    show s.reportAddrWritten.agent = s.agent
    unfold State.reportAddrWritten
    split
    · exact s.pollReporter_agent
    · exact State.pollReporter_agent _
    · exact s.leaveStall_agent
  case reportInterval => exact s.leaveStall_agent
  case reportRetries => exact s.leaveStall_agent
  all_goals rfl

theorem State.afterAck_agent (s : State) : s.afterAck.agent = s.agent := by
  unfold State.afterAck
  split
  · exact s.leaveStall_agent
  · split
    · exact State.pollReporter_agent _
    · rfl
  · exact s.pollReporter_agent

theorem State.ackAll_agent (s : State) (items : List Byte) (lost : Nat) :
    (((s.ackItems items).2.ackLost lost).afterAck).agent = s.agent := by
  obtain ⟨a, r, frame, -⟩ := s.ackItems_frame items
  rw [State.afterAck_agent, frame]
  rfl

theorem State.putRing_agent (s : State) (k : Fin 8) (x : Ring) : (s.putRing k x).agent = s.agent := by
  unfold State.putRing
  dsimp only
  split <;> rfl

/-! ## What a parameter's write changes (R164) -/

theorem Params.write_reportRetries {station : Address} {p : Param} {v : Nat} {x y : Params}
    (h : x.write station p v = some y) (hx : x.reportRetries ≤ 15) : y.reportRetries ≤ 15 := by
  cases p <;> simp only [Params.write] at h
  case unmatchedPolicy => split at h <;> [skip; split at h] <;> cases h <;> exact hx
  case reportAddr => split at h <;> [skip; split at h] <;> cases h <;> exact hx
  case reportRetries =>
    split at h
    · next hv =>
      cases h
      exact hv
    · cases h
  case mgmtPorts => split at h <;> cases h; exact hx
  case reportInterval => split at h <;> cases h; exact hx
  case leaseTime => split at h <;> cases h; exact hx
  case alertRank => split at h <;> cases h; exact hx
  case genHop => split at h <;> cases h; exact hx
  all_goals cases h

theorem Params.write_reportAddr {station : Address} {p : Param} {v : Nat} {x y : Params}
    (h : x.write station p v = some y) (hp : p ≠ .reportAddr) : y.reportAddr = x.reportAddr := by
  cases p <;> simp only [Params.write] at h
  case unmatchedPolicy => split at h <;> [skip; split at h] <;> cases h <;> rfl
  case reportAddr => exact absurd rfl hp
  case mgmtPorts => split at h <;> cases h; rfl
  case reportInterval => split at h <;> cases h; rfl
  case reportRetries => split at h <;> cases h; rfl
  case leaseTime => split at h <;> cases h; rfl
  case alertRank => split at h <;> cases h; rfl
  case genHop => split at h <;> cases h; rfl
  all_goals cases h

/-- A parameter written, with what it makes the reporter do, keeps what is raised and begins no stall. -/
theorem State.Continues.writeParam {p : Param} {v : Nat} {x : Params}
    (h : s.params.write s.station p v = some x) :
    s.Continues ((s.setAgent { s.agent with params := x }).paramWritten p) := by
  by_cases hp : p = .reportAddr
  · subst hp
    exact .of_not_stalled (State.Continues.reportAddrWritten (s.setAgent { s.agent with params := x }))
      (State.reportAddrWritten_not_stalled _)
  · have written : s.Continues (s.setAgent { s.agent with params := x }) :=
      .of_eq rfl rfl (Params.write_reportAddr h hp)
    refine written.trans ?_
    cases p
    case reportAddr => exact absurd rfl hp
    case reportInterval => exact .leaveStall _
    case reportRetries => exact .leaveStall _
    all_goals exact .refl _

theorem forceEvent_eq (object rank : Byte) (s : State) :
    forceEvent object rank s =
      executed (s.takeAttention ⟨.testForced, object, s.time, none, some rank.toNat⟩).1.bytes
        (s.takeAttention ⟨.testForced, object, s.time, none, some rank.toNat⟩).2 := rfl

theorem nat16_le (h l : Byte) : nat16 h l ≤ 65535 := by
  unfold nat16
  omega

/-- Only the byte 1 says yes (R175). -/
theorem eq_one_of_boolOfByte {x : Byte} (h : boolOfByte x = some true) : x = 1 := by
  unfold boolOfByte at h
  split at h
  · cases h
  split at h
  · assumption
  · cases h

/-! ## Keys, hold slots and ring slots of the other entries (R34, R38, R140) -/

theorem State.keyTaken_iff (s : State) (i : Fin 64) (d : FlowDef) :
    s.keyTaken i d = true ↔ ∃ j f, j ≠ i ∧ s.flow j = some f ∧ f.defn.sameKey d = true := by
  simp [State.keyTaken, flowIndices, Option.any_eq_true]

theorem State.slotTaken_iff (s : State) (k : Fin 16) :
    s.slotTaken k = true ↔ ∃ j f, s.flow j = some f ∧ f.holdSlot = some k := by
  simp [State.slotTaken, flowIndices, Option.any_eq_true]

theorem State.ringOverlaps_iff (s : State) (k : Fin 8) (d : RingDef) :
    s.ringOverlaps k d = true ↔ ∃ j r, j ≠ k ∧ s.ring j = some r ∧ r.defn.overlaps d = true := by
  have all (j : Fin 8) : j ∈ ringIndices := by revert j; decide
  simp [State.ringOverlaps, Option.any_eq_true, all]

/-- The lowest free slot is free. -/
theorem State.slotTaken_of_freeSlot {k : Fin 16} (h : s.freeSlot = some k) : s.slotTaken k = false := by
  simpa using List.find?_some h

/-- An entry may be loaded with a legal definition under a free key and a slot that is its own or free (R34, R38, R41). -/
theorem State.Keeps.loaded {i : Fin 64} {d : FlowDef} {slot : Option (Fin 16)} (hd : d.legal = true)
    (hk : ¬s.keyTaken i d = true) (hneeds : slot.isSome = d.needsHold)
    (hslot : ∀ k, slot = some k → s.slotOf i = some k ∨ s.slotTaken k = false) :
    s.Keeps (s.setFlow i (some (.loaded d slot))) := by
  refine ⟨rfl, id, fun hs => State.flowsOk_setFlow_new hs (Flow.ok_loaded hd hneeds) (fun j f hj hf => ?_)
    (fun j f k hj hf hk hfk => ?_), id, id, fun _ => id, id⟩
  · rw [State.keyTaken_iff] at hk
    exact Bool.eq_false_iff.mpr fun h => hk ⟨j, f, hj, hf, h⟩
  · rcases hslot k hk with own | free
    · obtain ⟨g, hg, hgk⟩ := Option.bind_eq_some_iff.mp own
      exact hs.2.2 j i f g k hj hf hg hfk hgk
    · exact absurd ((s.slotTaken_iff k).mpr ⟨j, f, hf, hfk⟩) (by simp [free])

/-- A ring may be defined on slots no other ring owns (R140). -/
theorem State.Keeps.defined {k : Fin 8} {d : RingDef} (hd : d.legal = true) (ho : ¬s.ringOverlaps k d = true) :
    s.Keeps (s.setRing k (some (.defined d))) := by
  refine ⟨rfl, id, id, fun hs => State.captureOk_setRing_new hs (Ring.ok_defined hd) fun j r hj hr => ?_, id,
    fun _ => id, id⟩
  rw [State.ringOverlaps_iff] at ho
  exact Bool.eq_false_iff.mpr fun h => ho ⟨j, r, hj, hr, h⟩

/-! ## What the execution of a command can be (R157) -/

/-- The execution of a command in `s`: every unit stays in order; an answer other than OK comes with the state
unchanged; what was raised stays raised; and little is added to the work. -/
structure State.Ran (s : State) (x : Reply × State) : Prop where
  keeps : s.Keeps x.2
  refused : ∀ st res, x.1 = .answer st res → st ≠ .ok → x.2 = s
  goesOn : s.Continues x.2
  work : x.2.work ≤ s.work + 3

namespace State.Ran

theorem unchanged (s : State) (reply : Reply) : s.Ran (reply, s) :=
  ⟨.refl s, fun _ _ _ _ => rfl, .refl s, Nat.le_add_right _ _⟩

theorem refuse (s : State) (st : Status) : s.Ran (refuse st s) := unchanged s _

theorem answerOk (s : State) (res : List Byte) : s.Ran (answerOk res s) := unchanged s _

/-- A reply that is no refusal. -/
theorem changed {reply : Reply} (hreply : ∀ st res, reply = .answer st res → st = .ok) (hk : s.Keeps t)
    (hc : s.Continues t) (hw : t.work ≤ s.work + 3) : s.Ran (reply, t) :=
  ⟨hk, fun st res h hst => absurd (hreply st res h) hst, hc, hw⟩

/-- A write command executed: it restarts the lease of the holder. -/
theorem executed {res : List Byte} (hh : t.agent.holder.isSome) (hk : s.Keeps t) (hc : s.Continues t)
    (hw : t.work ≤ s.work + 3) : s.Ran (executed res t) :=
  changed (fun st res h => by cases h; rfl) (hk.trans (.restartLease hh))
    (hc.trans (.of_eq rfl rfl rfl)) hw

/-- A write command executed that touches neither what is raised, nor the reporter, the rings or the agent. -/
theorem executed_apart {res : List Byte} (hh : s.agent.holder.isSome) (hk : s.Keeps t) (hr : t.raised = s.raised)
    (hrep : t.reporter = s.reporter) (hcap : t.capture = s.capture) (ha : t.agent = s.agent) :
    s.Ran (Machine.executed res t) := by
  have same : t.work = s.work := by
    have rings : t.recordingRings = s.recordingRings := by simp only [State.recordingRings, State.ring, hcap]
    rw [State.work_eq, State.work_eq, rings, hr, hrep]
  exact executed (ha ▸ hh) hk (.of_eq hr hrep (by simp only [State.params, ha])) (same ▸ Nat.le_add_right _ _)

/-! ## The shared checks -/

theorem owned {k : Reply × State} (h : s.agent.holder.isSome → s.Ran k) : s.Ran (owned r s k) := by
  unfold Machine.owned
  split
  · next hh => exact h (by rw [of_decide_eq_true hh]; rfl)
  · exact refuse s _

theorem sized {n : Nat} {k : Reply × State} (h : s.Ran k) : s.Ran (sized n r s k) := by
  unfold Machine.sized
  split
  · exact h
  · exact refuse s _

theorem onEntry {b : Byte} {k : Fin 64 → Reply × State} (h : ∀ i, s.Ran (k i)) : s.Ran (onEntry b s k) := by
  unfold Machine.onEntry
  split
  · split
    · exact refuse s _
    · exact h _
  · exact refuse s _

theorem onRing {b : Byte} {k : Fin 8 → Reply × State} (h : ∀ i, s.Ran (k i)) : s.Ran (onRing b s k) := by
  unfold Machine.onRing
  split
  · exact h _
  · exact refuse s _

/-- The claim check of READ_COUNTERS and READ_FLOW: the holder alone may clear (R157). -/
theorem ownedClear {k : Reply × State} (h : (r.operands[2]? = some 1 → s.agent.holder.isSome) → s.Ran k) :
    s.Ran (if r.operands[2]? = some 1 ∧ !s.holds r then Machine.refuse .notOwner s else k) := by
  split
  · exact refuse s _
  · next hno =>
    refine h fun hclear => ?_
    have hh : s.holds r = true := by simpa [hclear] using hno
    rw [of_decide_eq_true hh]
    rfl

/-! ## Commands that read -/

theorem runDiscover : s.Ran (runDiscover r s) := sized (answerOk s _)

theorem runReadParam : s.Ran (runReadParam r s) := by
  unfold Machine.runReadParam
  split
  · split
    · exact refuse s _
    · exact answerOk s _
  · exact refuse s _

theorem runReadRoute : s.Ran (runReadRoute r s) := by
  unfold Machine.runReadRoute
  split
  · split
    · exact refuse s _
    split
    · exact refuse s _
    · exact answerOk s _
  · exact refuse s _

theorem runReadAttention : s.Ran (runReadAttention r s) := by
  unfold Machine.runReadAttention
  split
  · split
    · exact refuse s _
    split
    · exact refuse s _
    · exact answerOk s _
  · exact refuse s _

theorem runReadRing : s.Ran (runReadRing r s) := by
  unfold Machine.runReadRing
  split
  · refine onRing fun k => ?_
    split
    · exact refuse s _
    · exact answerOk s _
  · exact refuse s _

theorem runReadSense : s.Ran (runReadSense r s) := sized (answerOk s _)

/-! ## The agent's own commands -/

theorem runClaim : s.Ran (runClaim r s) := by
  refine sized ?_
  split
  · have claimed : s.Keeps ((s.setHolder (some r.requester)).restartLease) :=
      .setAgent (fun ⟨hq, hqp, hc, hcp, _⟩ => ⟨hq, hqp, hc, hcp, rfl⟩) rfl
    exact changed (fun st res h => by cases h; rfl) claimed (.of_eq rfl rfl rfl) (Nat.le_add_right s.work _)
  · exact unchanged s _

theorem runRelease : s.Ran (runRelease r s) := by
  refine sized ?_
  split
  · exact changed (fun st res h => by cases h; rfl)
      (.endClaim s) (.of_eq rfl rfl rfl) (Nat.le_add_right s.work _)
  · exact unchanged s _

theorem runRestart : s.Ran (runRestart r s) := by
  refine owned fun hh => sized ?_
  split
  · exact refuse s _
  · exact changed nofun (.restartLease hh) (.of_eq rfl rfl rfl) (Nat.le_add_right s.work _)

theorem runWriteParam : s.Ran (runWriteParam r s) := by
  refine owned fun hh => ?_
  split
  · split
    · exact refuse s _
    next p _ =>
    split
    · exact refuse s _
    unfold writeValue
    split
    · exact refuse s _
    next x hx =>
    exact executed (by rw [State.paramWritten_agent]; exact hh)
      ((State.Keeps.setParams (Params.write_reportRetries hx)).trans (.paramWritten _ p)) (.writeParam hx)
      (State.work_paramWritten _ p)
  · exact refuse s _

/-! ## Ports, counters and routes -/

theorem runPortControl : s.Ran (runPortControl r s) := by
  refine owned fun hh => ?_
  split
  · split
    · exact refuse s _
    split
    · exact executed_apart hh (.setPort fun h => h.block) rfl rfl rfl rfl
    split
    · exact executed_apart hh (.setPort fun h => h.unblock) rfl rfl rfl rfl
    · exact refuse s _
  · exact refuse s _

theorem runReadCounters : s.Ran (runReadCounters r s) := by
  refine ownedClear fun hh => ?_
  split
  · next port group clear hops =>
    split
    · next p c _ hclear =>
      split
      · exact refuse s _
      · dsimp only
        split
        · next hc =>
          subst hc
          have one := eq_one_of_boolOfByte hclear
          exact executed_apart (hh (by simp [hops, one])) (.setPort fun h => h.clearGroup _) rfl rfl rfl rfl
        · exact answerOk s _
    · exact refuse s _
  · exact refuse s _

theorem runSetRoute : s.Ran (runSetRoute r s) := by
  refine owned fun hh => ?_
  split
  · split
    · exact refuse s _
    split
    · exact refuse s _
    split
    · exact refuse s _
    · exact executed_apart hh (.withRoutes s _) rfl rfl rfl rfl
  · exact refuse s _

/-! ## The flow table -/

/-- A command executed that writes an entry of the table alone. -/
theorem executed_setFlow {res : List Byte} {i : Fin 64} {x : Option Flow} (hh : s.agent.holder.isSome)
    (hk : s.Keeps (s.setFlow i x)) : s.Ran (Machine.executed res (s.setFlow i x)) :=
  executed_apart hh hk rfl rfl rfl rfl

theorem loadDefinition {i : Fin 64} {d : FlowDef} (hh : s.agent.holder.isSome) (hd : d.legal = true) :
    s.Ran (loadDefinition i d s) := by
  unfold Machine.loadDefinition
  split
  · exact refuse s _
  next hkey =>
  split
  · next hneeds =>
    split
    · exact refuse s _
    · next k hk =>
      refine executed_setFlow hh (.loaded hd hkey (by rw [hneeds]; rfl) fun k' hk' => ?_)
      cases hk'
      rcases Option.or_eq_some_iff.mp hk with own | ⟨-, free⟩
      · exact .inl own
      · exact .inr (State.slotTaken_of_freeSlot free)
  · next hneeds =>
    exact executed_setFlow hh (.loaded hd hkey (by simpa using hneeds) nofun)

theorem runLoadFlow : s.Ran (runLoadFlow r s) := by
  refine owned fun hh => sized (onEntry fun i => ?_)
  split
  · exact refuse s _
  split
  · exact refuse s _
  next d hd =>
  split
  · exact loadDefinition hh (FlowDef.legal_of_ofBytes hd)
  · exact refuse s _

theorem runRetimeFlow : s.Ran (runRetimeFlow r s) := by
  refine owned fun hh => ?_
  split
  · refine onEntry fun i => ?_
    split
    · exact refuse s _
    next p1 p0 e1 e0 l1 l0 _ _ f hf =>
    dsimp only
    split
    · next hrange =>
      obtain ⟨hp, he, hl⟩ := hrange
      exact executed_setFlow hh (.setFlow hf fun h => Flow.follows_retimed h hp (nat16_le p1 p0) he hl)
    · exact refuse s _
  · exact refuse s _

theorem runArmFlow : s.Ran (runArmFlow r s) := by
  refine owned fun hh => ?_
  split
  · refine onEntry fun i => ?_
    split
    · exact refuse s _
    next f hf =>
    split
    · exact executed_setFlow hh (.setFlow hf Flow.follows_armed)
    · exact refuse s _
  · exact refuse s _

theorem runDisarmFlow : s.Ran (runDisarmFlow r s) := by
  refine owned fun hh => ?_
  split
  · refine onEntry fun i => ?_
    split
    · exact refuse s _
    next f hf =>
    split
    · exact executed_apart hh (.refl s) rfl rfl rfl rfl
    · exact executed_setFlow hh (.setFlow hf fun h => Flow.follows_cleared h (.inl rfl))
  · exact refuse s _

theorem runDropFlow : s.Ran (runDropFlow r s) := by
  refine owned fun hh => ?_
  split
  · refine onEntry fun i => ?_
    split
    · exact refuse s _
    split
    · exact executed_setFlow hh (.setFlow_none s i)
    · exact refuse s _
  · exact refuse s _

theorem runReadFlow : s.Ran (runReadFlow r s) := by
  refine ownedClear fun hh => ?_
  split
  · next index part clear hops =>
    unfold readFlowPart
    split
    · dsimp only
      split
      · exact refuse s _
      next c hclear =>
      split
      · exact refuse s _
      cases c with
      | false =>
        split
        · exact answerOk s _
        · exact answerOk s _
      | true =>
        have one := eq_one_of_boolOfByte hclear
        have held := hh (by simp [hops, one])
        split
        · exact executed_apart held (.refl s) rfl rfl rfl rfl
        · next f hf =>
          exact executed_setFlow held (.setFlow hf fun h => Flow.follows_withCounters h _)
    · exact refuse s _
  · exact refuse s _

theorem runClearTable : s.Ran (runClearTable r s) := by
  refine owned fun hh => sized ?_
  split
  · exact refuse s _
  · exact changed nofun ((State.Keeps.setSweep s _).trans (.restartLease hh)) (.of_eq rfl rfl rfl)
      (Nat.le_add_right s.work _)

/-! ## Attention -/

theorem runAckAttention : s.Ran (runAckAttention r s) := by
  unfold Machine.runAckAttention
  split
  · split
    · split
      · exact refuse s _
      split
      · exact refuse s _
      next l1 l0 n items _ _ _ =>
      have keeps := State.Keeps.ackAll s items (nat16 l1 l0)
      have goesOn := State.Continues.ackAll s items (nat16 l1 l0)
      have work := s.work_ackAll items (nat16 l1 l0)
      unfold ackList
      dsimp only
      split
      · next hh =>
        have held : (((s.ackItems items).2.ackLost (nat16 l1 l0)).afterAck).agent.holder.isSome := by
          rw [of_decide_eq_true hh]
          rfl
        exact executed held keeps goesOn work
      · exact changed (fun st res h => by cases h; rfl) keeps goesOn work
    · exact refuse s _
  · exact refuse s _

theorem runClearAttention : s.Ran (runClearAttention r s) :=
  owned fun hh => sized (executed hh (.clearAttention s) (.of_not_stalled ⟨[], by simp⟩ nofun)
    (State.work_toIdle (s.setAttention { s.attention with records := [], lost := 0 })))

theorem runSetCause : s.Ran (runSetCause r s) := by
  refine owned fun hh => ?_
  split
  · split
    · split
      · exact refuse s _
      · exact executed_apart hh (.setCauses s _) rfl rfl rfl rfl
    · exact refuse s _
  · exact refuse s _

theorem runForceAttention : s.Ran (runForceAttention r s) := by
  refine owned fun hh => ?_
  split
  · split
    · exact refuse s _
    · next object rank _ _ =>
      have := s.work_takeAttention ⟨.testForced, object, s.time, none, some rank.toNat⟩
      rw [forceEvent_eq]
      exact executed (by rw [State.takeAttention_agent]; exact hh) (.takeAttention s _) (.takeAttention s _) (by omega)
  · exact refuse s _

/-! ## Rings -/

/-- A ring command executed: the ring given may be recording now. -/
theorem executed_setRing {res : List Byte} {k : Fin 8} {x : Option Ring} (hh : s.agent.holder.isSome)
    (hk : s.Keeps (s.setRing k x)) : s.Ran (Machine.executed res (s.setRing k x)) := by
  refine executed hh hk (.of_eq rfl rfl rfl) ?_
  have := s.work_setRing k x
  split at this <;> split at this <;> omega

theorem runDefineRing : s.Ran (runDefineRing r s) := by
  refine owned fun hh => sized (onRing fun k => ?_)
  split
  · exact refuse s _
  split
  · exact refuse s _
  next d hd =>
  split
  · exact refuse s _
  · next ho => exact executed_setRing hh (.defined (RingDef.legal_of_ofBytes hd) ho)

theorem runStartRing : s.Ran (runStartRing r s) := by
  refine owned fun hh => ?_
  split
  · refine onRing fun k => ?_
    split
    · exact refuse s _
    next x hx =>
    split
    · exact refuse s _
    · exact executed_setRing hh (.setRing hx (fun h => h.started) rfl)
  · exact refuse s _

theorem runStopRing : s.Ran (runStopRing r s) := by
  refine owned fun hh => ?_
  split
  · refine onRing fun k => ?_
    split
    · exact refuse s _
    next x hx =>
    split
    · exact executed_setRing hh (.setRing hx (fun h => h.stopped) rfl)
    · exact refuse s _
  · exact refuse s _

theorem runTriggerRing : s.Ran (runTriggerRing r s) := by
  refine owned fun hh => ?_
  split
  · refine onRing fun k => ?_
    split
    · exact refuse s _
    next x hx =>
    split
    · next hrun =>
      have recording : x.recording = true := by simp [Ring.recording, hrun]
      refine executed (by rw [State.putRing_agent]; exact hh) (.putRing hx (fun h => h.trigger) x.trigger_defn) (.putRing s k _)
        ((State.work_putRing hx recording).trans (Nat.le_add_right _ _))
    · exact executed_apart hh (.refl s) rfl rfl rfl rfl
  · exact refuse s _

theorem runDiscardRing : s.Ran (runDiscardRing r s) := by
  refine owned fun hh => ?_
  split
  · exact onRing fun k => executed_setRing hh (.setRing_none s k)
  · exact refuse s _

/-! ## Sense -/

theorem runSenseConfig : s.Ran (runSenseConfig r s) := by
  refine owned fun hh => ?_
  split
  · split
    · split
      · exact executed_apart hh (.setInput s _ _) rfl rfl rfl rfl
      · exact refuse s _
    · exact refuse s _
  · exact refuse s _

end State.Ran

/-- The execution of any command, of a known code or an unknown one (R157). -/
theorem State.ran_run (s : State) (r : Request) : s.Ran (run r s) := by
  unfold run
  split
  · exact .refuse s _
  · exact .runDiscover
  · exact .runClaim
  · exact .runRelease
  · exact .runReadParam
  · exact .runWriteParam
  · exact .runRestart
  · exact .runPortControl
  · exact .runReadCounters
  · exact .runSetRoute
  · exact .runReadRoute
  · exact .runLoadFlow
  · exact .runRetimeFlow
  · exact .runArmFlow
  · exact .runDisarmFlow
  · exact .runDropFlow
  · exact .runReadFlow
  · exact .runClearTable
  · exact .runReadAttention
  · exact .runAckAttention
  · exact .runClearAttention
  · exact .runSetCause
  · exact .runForceAttention
  · exact .runDefineRing
  · exact .runStartRing
  · exact .runStopRing
  · exact .runTriggerRing
  · exact .runReadRing
  · exact .runDiscardRing
  · exact .runSenseConfig
  · exact .runReadSense

end Sys2Proof.Machine
end

section
/-! SUPPORT. Taking everything raised: each taking does less work than it took away, so that nothing raised is left when a
command ends (log 21); the order in which things are taken; and the statement. -/
namespace Sys2Proof.Machine

variable {s : State} {x : Raised}

/-! ## The agent's take and the warm restart -/

theorem State.takeNext_of_queue {r : Request} {rest : List Request} (hs : s.agent.service = .idle)
    (hq : s.agent.queue = r :: rest) :
    s.takeNext = (s.setAgent { s.agent with queue := rest }).take r := by
  simp only [State.takeNext, hs, hq]

theorem State.takeNext_of_busy (h : s.agent.service ≠ .idle ∨ s.agent.queue = []) : s.takeNext = s := by
  unfold State.takeNext
  split
  · next hs hq => rcases h with h | h <;> simp_all
  · rfl

theorem State.take_eq (s : State) (r : Request) :
    s.take r = (run r s).2.setAgent
      { (run r s).2.agent with service := .serving r ((run r s).2.time + 20) (run r s).1 } := rfl

theorem State.Keeps.take (s : State) (r : Request) : s.Keeps (s.take r) :=
  (s.ran_run r).keeps.trans (.withService _ _)

theorem State.Continues.take (s : State) (r : Request) : s.Continues (s.take r) :=
  (s.ran_run r).goesOn.trans (.of_eq rfl rfl rfl)

theorem State.work_take (s : State) (r : Request) : (s.take r).work ≤ s.work + 3 := (s.ran_run r).work

/-- The head of the queue leaves it. -/
theorem State.Keeps.dequeue {r : Request} {rest : List Request} (hq : s.agent.queue = r :: rest) :
    s.Keeps (s.setAgent { s.agent with queue := rest }) :=
  .setAgent (fun ⟨h1, h2, h3⟩ => by
    rw [hq] at h1 h2
    exact ⟨(Nat.le_succ _).trans h1, (List.pairwise_cons.mp h2).2, h3⟩) rfl

/-- What the agent's take can be: nothing, or the take of the request at the head of the queue. -/
theorem State.takeNext_cases (s : State) :
    s.takeNext = s ∧ (s.agent.service ≠ .idle ∨ s.agent.queue = [])
    ∨ ∃ r rest, s.agent.queue = r :: rest ∧ s.takeNext = (s.setAgent { s.agent with queue := rest }).take r := by
  by_cases hs : s.agent.service = .idle
  · cases hq : s.agent.queue with
    | nil => exact .inl ⟨State.takeNext_of_busy (.inr hq), .inr rfl⟩
    | cons r rest => exact .inr ⟨r, rest, rfl, State.takeNext_of_queue hs hq⟩
  · exact .inl ⟨State.takeNext_of_busy (.inl hs), .inl hs⟩

theorem State.Keeps.takeNext (s : State) : s.Keeps s.takeNext := by
  rcases s.takeNext_cases with ⟨h, -⟩ | ⟨r, rest, hq, h⟩ <;> rw [h]
  · exact .refl s
  · exact (State.Keeps.dequeue hq).trans (.take _ r)

theorem State.Continues.takeNext (s : State) : s.Continues s.takeNext := by
  rcases s.takeNext_cases with ⟨h, -⟩ | ⟨r, rest, -, h⟩ <;> rw [h]
  · exact .refl s
  · exact (State.Continues.of_eq rfl rfl rfl : s.Continues (s.setAgent { s.agent with queue := rest })).trans (.take _ r)

theorem State.work_takeNext (s : State) : s.takeNext.work ≤ s.work + 3 := by
  rcases s.takeNext_cases with ⟨h, -⟩ | ⟨r, rest, -, h⟩ <;> rw [h]
  · exact Nat.le_add_right _ _
  · exact State.work_take (s.setAgent { s.agent with queue := rest }) r

theorem State.port_warmRestart (s : State) (p : Port) : s.warmRestart.port p = (s.port p).warm := by
  cases p <;> rfl

theorem State.flow_warmRestart (s : State) (i : Fin 64) : s.warmRestart.flow i = (s.flow i).map Flow.warm := by
  simp [State.flow, State.warmRestart, vmap]

theorem State.ring_warmRestart (s : State) (k : Fin 8) : s.warmRestart.ring k = (s.ring k).map Ring.warm := by
  simp [State.ring, State.warmRestart, vmap]

theorem State.Keeps.warmRestart (s : State) : s.Keeps s.warmRestart where
  pending := rfl
  queues hs p := by
    rw [State.port_warmRestart]
    exact (hs p).warm
  flows hs := by
    refine State.flowsOk_of_follows hs fun i g hg => ?_
    rw [State.flow_warmRestart, Option.map_eq_some_iff] at hg
    obtain ⟨f, hf, rfl⟩ := hg
    exact ⟨f, hf, Flow.follows_warm⟩
  capture hs := by
    refine State.captureOk_of_defn hs hs.2.2 fun k y hy => ?_
    rw [State.ring_warmRestart, Option.map_eq_some_iff] at hy
    obtain ⟨r, hr, rfl⟩ := hy
    exact ⟨r, hr, fun h => h.warm, r.warm_defn⟩
  attention ha := ha.sublist (List.nil_sublist _) (Nat.zero_le _) _
  reporter _ hr := by
    obtain ⟨-, hretries, -⟩ := hr
    exact State.acking.reporterOk ⟨Reporter.toIdle_shape _, hretries, nofun⟩ fun h => absurd rfl h
  agent _ := ⟨Nat.zero_le _, .nil, Nat.zero_le _, .nil, rfl⟩

/-! ## What may be taken first -/

theorem length_eligible_le (l : List Raised) : (eligible l).length ≤ l.length := by
  induction l with
  | nil => exact Nat.le_refl 0
  | cons y rest ih =>
    unfold eligible
    split
    · exact Nat.succ_le_succ (List.length_filter_le _ _)
    · exact Nat.succ_le_succ ih

/-- A FLOW event that may come first is preceded by no other (R66). -/
theorem not_flow_before_of_mem_eligible (hx : x.isFlow = true) {earlier later : List Raised} (hfirst : x ∉ earlier)
    (h : x ∈ eligible (earlier ++ x :: later)) : ∀ y ∈ earlier, y.isFlow = false := by
  induction earlier with
  | nil => nofun
  | cons z rest ih =>
    have hz : x ≠ z := fun h => hfirst (h ▸ List.mem_cons_self)
    have hrest : x ∉ rest := fun h => hfirst (.tail _ h)
    rw [List.cons_append, eligible] at h
    split at h
    · rcases List.mem_cons.mp h with h | h
      · exact absurd h hz
      · have := (List.mem_filter.mp h).2
        simp [hx] at this
    · next hflow =>
      rcases List.mem_cons.mp h with h | h
      · exact absurd h hz
      · exact List.forall_mem_cons.mpr ⟨by simpa using hflow, ih hrest h⟩

/-- Every candidate may come first by the FLOW order, and is no stall exit while an ACK_ATTENTION is to be taken. -/
theorem State.mem_candidates (h : x ∈ s.candidates) :
    x ∈ eligible s.raised ∧ (s.takesNext .ackAttention = true → x.isStallExit = false) := by
  have key {y} (hy : y ∈ (if s.takesNext .ackAttention then (eligible s.raised).filter (fun x => !x.isStallExit)
      else eligible s.raised)) : y ∈ eligible s.raised ∧ (s.takesNext .ackAttention = true → y.isStallExit = false) := by
    split at hy
    · obtain ⟨hmem, hst⟩ := List.mem_filter.mp hy
      exact ⟨hmem, fun _ => by simpa using hst⟩
    · next hno => exact ⟨hy, fun hyes => absurd hyes hno⟩
  unfold State.candidates at h
  dsimp only at h
  split at h
  · next z hz =>
    split at h
    · rw [List.mem_singleton.mp h]
      exact key (List.mem_of_find?_eq_some hz)
    · exact key h
  · exact key h

theorem State.length_candidates_le (s : State) : s.candidates.length ≤ s.raised.length := by
  have key : (if s.takesNext .ackAttention then (eligible s.raised).filter (fun x => !x.isStallExit)
      else eligible s.raised).length ≤ s.raised.length := by
    split
    · exact (List.length_filter_le _ _).trans (length_eligible_le _)
    · exact length_eligible_le _
  unfold State.candidates
  dsimp only
  split
  · next z hz =>
    split
    · exact (List.length_pos_of_mem (List.mem_of_find?_eq_some hz)).trans_le key
    · exact key
  · exact key

/-! ## One thing raised and taken -/

theorem State.Keeps.takeRaised (s : State) (x : Raised) : s.Keeps (s.takeRaised x) := by
  cases x with
  | attention e => exact .takeAttention s e
  | announce c o => exact .takeAnnounce s c o
  | notice n => exact .takeNotice s n
  | restart => exact .warmRestart s
  | offer p e => exact .enqueue s p e
  | take => exact .takeNext s
  | stallExit a => exact .stallExit s a

/-- A taking adds less to the work than the thing taken stood for. -/
theorem State.work_takeRaised (s : State) (x : Raised) : (s.takeRaised x).work + 1 ≤ s.work + x.weight := by
  cases x with
  | attention e => exact Nat.succ_le_succ (s.work_takeAttention e)
  | announce c o => exact Nat.succ_le_succ (State.work_foldl (fun t k => t.work_triggerBy c o k) _ s)
  | notice n => exact Nat.succ_le_succ (State.work_foldl (fun t k => t.work_record n k) _ s)
  | restart => exact Nat.succ_le_succ s.work_warmRestart
  | offer p e =>
    have := s.work_enqueue p e
    cases hm : e.restartMark <;> simp only [hm, State.takeRaised, Raised.weight, Bool.false_eq_true, if_true, if_false]
      at this ⊢ <;> omega
  | take => exact Nat.succ_le_succ s.work_takeNext
  | stallExit a => exact Nat.succ_le_succ (s.work_stallExit a)

theorem State.work_erase (h : x ∈ s.raised) :
    ({ s with raised := s.raised.erase x } : State).work + x.weight = s.work := by
  have rings : ({ s with raised := s.raised.erase x } : State).recordingRings = s.recordingRings := rfl
  have sum := ((List.perm_cons_erase h).map Raised.weight).sum_eq
  rw [List.map_cons, List.sum_cons] at sum
  simp only [State.work_eq, rings]
  omega

/-- One of the candidates is taken, under some number of choices. -/
theorem State.takeOne_eq (h : s.raised ≠ []) :
    ∃ x ∈ s.candidates, ∃ n,
      s.takeOne = ({ s with raised := s.raised.erase x, choices := n } : State).takeRaised x := by
  have some : s.candidates ≠ [] := s.candidates_ne_nil h
  have chosen : ∃ i n, i < s.candidates.length ∧ s.choose s.candidates.length = (i, { s with choices := n }) := by
    unfold State.choose
    split
    · exact ⟨0, s.choices, List.length_pos_iff.mpr some, rfl⟩
    · exact ⟨_, _, Nat.mod_lt _ (List.length_pos_iff.mpr some), rfl⟩
  obtain ⟨i, n, hi, hch⟩ := chosen
  refine ⟨s.candidates[i], List.getElem_mem hi, n, ?_⟩
  simp only [State.takeOne, hch, List.getElem?_eq_getElem hi]

theorem State.work_takeOne (h : s.raised ≠ []) : s.takeOne.work < s.work := by
  obtain ⟨x, hx, n, heq⟩ := State.takeOne_eq h
  have erased := State.work_erase (State.mem_raised_of_mem_candidates s hx)
  have taken := State.work_takeRaised { s with raised := s.raised.erase x, choices := n } x
  have same : ({ s with raised := s.raised.erase x, choices := n } : State).work
      = ({ s with raised := s.raised.erase x } : State).work := rfl
  rw [heq]
  omega

/-! ## What can have no effect -/

theorem State.foldl_eq_self {α : Type} {f : State → α → State} {l : List α} (h : ∀ a ∈ l, f s a = s) :
    l.foldl f s = s := by
  induction l with
  | nil => rfl
  | cons a rest ih =>
    rw [List.foldl_cons, h a List.mem_cons_self]
    exact ih fun b hb => h b (.tail _ hb)

/-- What is not live would have no effect (R134, R137). -/
theorem State.takeRaised_of_not_live (h : s.live x = false) : s.takeRaised x = s := by
  cases x with
  | announce c o =>
    obtain ⟨-, hrings⟩ := Bool.or_eq_false_iff.mp h
    refine State.foldl_eq_self fun k hk => ?_
    have := List.any_eq_false.mp hrings k hk
    unfold State.triggerBy
    split
    · rfl
    · next r hr =>
      rw [hr] at this
      exact if_neg this
  | notice n =>
    obtain ⟨-, hrings⟩ := Bool.or_eq_false_iff.mp h
    refine State.foldl_eq_self fun k hk => ?_
    have := List.any_eq_false.mp hrings k hk
    unfold State.record
    split
    · rfl
    · next r hr =>
      rw [hr] at this
      exact if_neg this
  | stallExit a =>
    have hst : s.reporter.state ≠ .stalled := of_decide_eq_false h
    simp [State.takeRaised, State.stallExit, State.leaveStall, hst]
  | attention e => cases h
  | restart => cases h
  | offer p e => cases h
  | take => cases h

/-- The agent's take is live, so dropping what is not live does not change what is. -/
theorem State.live_prune (s : State) : s.prune.live = s.live := by
  have takes (c : Command) : s.prune.takesNext c = s.takesNext c := by
    have : s.prune.raised.contains .take = s.raised.contains .take := by
      rw [Bool.eq_iff_iff]
      simp [State.prune, State.live]
    simp only [State.takesNext, this]
    rfl
  funext x
  cases x <;> simp only [State.live, takes] <;> rfl

theorem State.prune_of_live (h : ∀ x ∈ s.raised, s.live x = true) : s.prune = s := by
  simp only [State.prune, List.filter_eq_self.mpr h]

theorem State.live_of_mem_prune (h : x ∈ s.prune.raised) : s.prune.live x = true := by
  rw [State.live_prune]
  exact (List.mem_filter.mp h).2

theorem State.prune_prune (s : State) : s.prune.prune = s.prune := State.prune_of_live fun _ h => State.live_of_mem_prune h

theorem State.work_prune (s : State) : s.prune.work ≤ s.work := by
  have rings : s.prune.recordingRings = s.recordingRings := rfl
  have sum : (s.prune.raised.map Raised.weight).sum ≤ (s.raised.map Raised.weight).sum :=
    (List.filter_sublist.map _).sum_le_sum (fun _ _ => Nat.zero_le _)
  have credit : s.prune.reporter = s.reporter := rfl
  rw [State.work_eq, State.work_eq, rings, credit]
  omega

/-! ## Everything raised -/

theorem State.drain_succ_of_nil {n : Nat} (h : s.prune.raised = []) : s.drain (n + 1) = s.prune := by
  simp only [State.drain, h]

theorem State.drain_succ_of_ne_nil {n : Nat} (h : s.prune.raised ≠ []) : s.drain (n + 1) = s.prune.takeOne.drain n := by
  obtain ⟨x, rest, hx⟩ := List.exists_cons_of_ne_nil h
  simp only [State.drain, hx]

theorem State.work_prune_takeOne (h : s.prune.raised ≠ []) : s.prune.takeOne.work < s.work :=
  Nat.lt_of_lt_of_le (State.work_takeOne h) s.work_prune

/-- With more takings allowed than there is work, all is taken. -/
theorem State.drain_raised (n : Nat) : ∀ s : State, s.work < n → (s.drain n).raised = [] := by
  induction n with
  | zero => exact fun s h => absurd h (Nat.not_lt_zero _)
  | succ n ih =>
    intro s h
    by_cases hr : s.prune.raised = []
    · rw [State.drain_succ_of_nil hr, hr]
    · rw [State.drain_succ_of_ne_nil hr]
      exact ih _ (Nat.lt_of_lt_of_le (State.work_prune_takeOne hr) (Nat.le_of_lt_succ h))

/-- More takings than there is work make no difference. -/
theorem State.drain_eq (n : Nat) : ∀ (m : Nat) (s : State), s.work < n → s.work < m → s.drain n = s.drain m := by
  induction n with
  | zero => exact fun m s h => absurd h (Nat.not_lt_zero _)
  | succ n ih =>
    intro m s hn hm
    obtain ⟨m, rfl⟩ := Nat.exists_eq_succ_of_ne_zero (Nat.ne_of_gt (Nat.zero_lt_of_lt hm))
    by_cases hr : s.prune.raised = []
    · rw [State.drain_succ_of_nil hr, State.drain_succ_of_nil hr]
    · have less := State.work_prune_takeOne hr
      rw [State.drain_succ_of_ne_nil hr, State.drain_succ_of_ne_nil hr]
      exact ih m _ (Nat.lt_of_lt_of_le less (Nat.le_of_lt_succ hn)) (Nat.lt_of_lt_of_le less (Nat.le_of_lt_succ hm))

/-- Nothing raised is left. -/
theorem State.takeAll_raised (s : State) : s.takeAll.raised = [] := State.drain_raised _ s (Nat.lt_succ_self _)

theorem State.settle_raised (s : State) : s.settle.raised = [] := s.takeAll_raised

theorem State.takeAll_of_prune_nil (h : s.prune.raised = []) : s.takeAll = s.prune := State.drain_succ_of_nil h

/-- The first taking, then the rest. -/
theorem State.takeAll_of_prune_ne_nil (h : s.prune.raised ≠ []) : s.takeAll = s.prune.takeOne.takeAll :=
  (State.drain_succ_of_ne_nil h).trans (State.drain_eq _ _ _ (State.work_prune_takeOne h) (Nat.lt_succ_self _))

/-- What can have no effect may be dropped before. -/
theorem State.takeAll_prune (s : State) : s.prune.takeAll = s.takeAll := by
  by_cases h : s.prune.raised = []
  · rw [State.takeAll_of_prune_nil h, State.takeAll_of_prune_nil (by rwa [State.prune_prune]), State.prune_prune]
  · rw [State.takeAll_of_prune_ne_nil h, State.takeAll_of_prune_ne_nil (by rwa [State.prune_prune]), State.prune_prune]

/-- Where all that is raised is live, one of the candidates is taken first. -/
theorem State.takeAll_of_live (hl : ∀ x ∈ s.raised, s.live x = true) (h : s.raised ≠ []) :
    ∃ x ∈ s.candidates, ∃ n,
      s.takeAll = (({ s with raised := s.raised.erase x, choices := n } : State).takeRaised x).takeAll := by
  obtain ⟨x, hx, n, heq⟩ := State.takeOne_eq h
  refine ⟨x, hx, n, ?_⟩
  rw [State.takeAll_of_prune_ne_nil (by rwa [State.prune_of_live hl]), State.prune_of_live hl, heq]

/-- A single thing raised is taken with no choice made. -/
theorem State.takeAll_of_single (h : s.raised = [x]) (hl : s.live x = true) :
    s.takeAll = (({ s with raised := [] } : State).takeRaised x).takeAll := by
  have live : ∀ y ∈ s.raised, s.live y = true := by
    rw [h]
    exact fun y hy => List.mem_singleton.mp hy ▸ hl
  have only : s.candidates = [x] := by
    have short := s.length_candidates_le
    rw [h] at short
    obtain ⟨y, hy⟩ := List.length_eq_one_iff.mp
      (Nat.le_antisymm short (List.length_pos_iff.mpr (s.candidates_ne_nil (by simp [h]))))
    have same : y = x := by simpa [h] using State.mem_raised_of_mem_candidates s (x := y) (by simp [hy])
    rw [hy, same]
  rw [State.takeAll_of_prune_ne_nil (by simp [State.prune_of_live live, h]), State.prune_of_live live]
  congr 1
  simp [State.takeOne, only, State.choose, h]

/-! ## A command as an event -/

/-- What a command is at the module, before the units take what it raises. -/
def State.event (c : Instr) (s : State) : State :=
  match asRequest c with
  | some (code, q) => s.request code q
  | none =>
    match c with
    | .coldReset switch => s.coldReset switch
    | .signalValid p => s.setPort p ((s.port p).signalValid s.time)
    | .qualificationExpiry p => s.qualified p
    | .signalLost p => s.loseSignal p
    | .receptionStart p => s.setPort p (s.port p).receptionStart
    | .arrival p bytes => s.arrive p bytes
    | .transmissionComplete p => s.completeTransmission p
    | .deadlineExpiry i => s.expire i
    | .sweepVisit => s.visit
    | .senseSample i level => s.sample i level
    | .leaseExpiry => s.leaseExpires
    | .ackTimerExpiry => s.ackTimerExpires
    | .requestCompletion => s.completion
    | _ => s.holdReset

/-- The two commands that RESET does not hold off. -/
def isReset : Instr → Bool
  | .resetAsserted => true
  | .coldReset _ => true
  | _ => false

/-- Every command but the two resets is its event, with everything it raises taken, unless RESET holds the module. -/
theorem exec_eq_event {c : Instr} (h : isReset c = false) (s : State) :
    exec c s = .next (s.unlessReset fun s => (s.event c).settle) := by
  cases c
  case resetAsserted => cases h
  case coldReset => cases h
  all_goals rfl

theorem exec_of_free {c : Instr} (h : isReset c = false) (hs : s.resetAsserted = false) :
    exec c s = .next (s.event c).settle := by
  rw [exec_eq_event h, State.unlessReset_free s hs]

theorem exec_of_held {c : Instr} (h : isReset c = false) (hs : s.resetAsserted = true) : exec c s = .next s := by
  rw [exec_eq_event h, State.unlessReset_held s hs]

/-- What a command can do: a reset, nothing while RESET is held, or its event and what that raises. -/
theorem exec_cases (c : Instr) (s : State) :
    (c = .resetAsserted ∧ exec c s = .next s.holdReset)
    ∨ (∃ switch, c = .coldReset switch ∧ exec c s = .next (s.coldReset switch))
    ∨ (s.resetAsserted = true ∧ exec c s = .next s)
    ∨ (s.resetAsserted = false ∧ exec c s = .next (s.event c).settle) := by
  cases hc : isReset c with
  | true =>
    cases c <;> try cases hc
    · exact .inl ⟨rfl, rfl⟩
    · exact .inr (.inl ⟨_, rfl, rfl⟩)
  | false =>
    cases hs : s.resetAsserted with
    | true => exact .inr (.inr (.inl ⟨rfl, exec_of_held hc hs⟩))
    | false => exact .inr (.inr (.inr ⟨rfl, exec_of_free hc hs⟩))

/-! ## The step -/

theorem State.nextDue_eq (s : State) : ∃ c n, s.nextDue = (c, { s with choices := n }) := by
  unfold State.nextDue State.choose
  split
  · exact ⟨_, s.choices, rfl⟩
  split
  · exact ⟨_, s.choices, rfl⟩
  dsimp only
  split
  · exact ⟨_, s.choices, rfl⟩
  · exact ⟨_, _, rfl⟩

/-- A step is a command on the rest of the queue, up to the number of choices made, or lets time pass. -/
theorem step_cases (s : State) :
    (∃ c rest n, step s = exec c { s with pending := rest, choices := n })
    ∨ ∃ n, step s = .next (State.tick { s with choices := n }) := by
  unfold step
  split
  · exact .inl ⟨_, _, s.choices, rfl⟩
  · obtain ⟨c, n, h⟩ := s.nextDue_eq
    rw [h]
    cases c with
    | some c => exact .inl ⟨c, s.pending, n, rfl⟩
    | none => exact .inr ⟨n, rfl⟩

end Sys2Proof.Machine

/-! ## The statement -/

namespace Sys2Proof.Proofs

open Sys2Proof Sys2Proof.Machine

/-- A step from a state with nothing raised leaves nothing raised. -/
theorem step_raised {s t : State} (hs : s.raised = []) (h : step s = .next t) : t.raised = [] := by
  rcases step_cases s with ⟨c, rest, n, heq⟩ | ⟨n, heq⟩ <;> rw [heq] at h
  · rcases exec_cases c { s with pending := rest, choices := n } with ⟨-, hc⟩ | ⟨a, -, hc⟩ | ⟨-, hc⟩ | ⟨-, hc⟩ <;>
      rw [hc] at h <;> cases h
    · exact hs
    · rfl
    · exact hs
    · exact State.settle_raised _
  · cases h
    unfold State.tick
    split <;> exact hs

/-- Settles O13: the loop of `State.settle` by its measure of work, the order by its candidates, and each taking. -/
theorem stepTakesEverythingRaised : Obligations.StepTakesEverythingRaised := by
  refine ⟨fun s t hs h => step_raised hs h, fun s => ⟨s.takeAll_raised, rfl, s.takeAll_nil,
    fun x => State.takeRaised_of_not_live, (State.takeAll_prune s).symm, fun x => State.takeAll_of_single,
    fun hl hne => ?order⟩, fun s => ⟨fun e => rfl, fun c object => rfl, fun n => rfl, rfl, fun p e => rfl, fun a => rfl,
    fun r rest hs hq => ?take, State.takeNext_of_busy⟩⟩
  case order =>
    obtain ⟨x, hx, n, heq⟩ := State.takeAll_of_live hl hne
    obtain ⟨heligible, hack⟩ := State.mem_candidates hx
    refine ⟨x, State.mem_raised_of_mem_candidates s hx, n, heq, fun earlier later hflow hsplit hfirst => ?flow,
      fun a r rest hstall hq hcode htake => ?stall⟩
    case flow => exact not_flow_before_of_mem_eligible hflow hfirst (hsplit ▸ heligible)
    case stall =>
      have next : s.takesNext .ackAttention = true := by
        simp [State.takesNext, htake, hq, hcode, Command.code]
      have := hack next
      rw [hstall] at this
      cases this
  case take => exact (State.takeNext_of_queue hs hq).trans (State.take_eq _ r)

end Sys2Proof.Proofs
end

section
/-! SUPPORT. Every command keeps every unit in order, and with it the invariants of the units that every step keeps. -/
namespace Sys2Proof.Machine

variable {s t : State}

namespace State.Keeps

/-! ## Taking what is raised -/

theorem kept (s : State) : State.Kept s.Keeps where
  raised t xs h := h.trans (withRaised t xs)
  choices t n h := h.trans (withChoices t n)
  taken t x h := h.trans (takeRaised t x)

theorem takeAll (s : State) : s.Keeps s.takeAll := (kept s).takeAll (refl s)

theorem settle (s : State) : s.Keeps s.settle := (kept s).settle (fun t b h => h.trans (withAlert t b)) (refl s)

/-! ## Requests and responses -/

theorem setCache_write (s : State) (e : CacheEntry) : s.Keeps (s.setCache (cacheWrite e s.agent.cache)) :=
  setAgent (fun ⟨h1, h2, _, h4, h5⟩ => ⟨h1, h2, (cacheWrite_orderly h4).1, (cacheWrite_orderly h4).2, h5⟩) rfl

theorem setCache_use {e : CacheEntry} (he : e ∈ s.agent.cache) : s.Keeps (s.setCache (cacheUse e s.agent.cache)) :=
  setAgent (fun ⟨h1, h2, h3, h4, h5⟩ => ⟨h1, h2, (cacheUse_orderly he h3 h4).1, (cacheUse_orderly he h3 h4).2, h5⟩) rfl

theorem respond (s : State) (r : Request) (st : Status) (results : List Byte) (mark : Bool) :
    s.Keeps (s.respond r st results mark) :=
  (setCache_write s _).trans ((enqueue _ _ _).trans (raise _ _))

/-- A request joins the queue: there is room, and none of its requester and tag is queued. -/
theorem queued {r : Request} (hf : ¬s.inFlight r = true) (hroom : s.agent.queue.length < requestCapacity) :
    s.Keeps (s.setAgent { s.agent with queue := s.agent.queue ++ [r] }) := by
  refine setAgent (fun ⟨_, h2, h3⟩ => ⟨?_, List.pairwise_append.mpr ⟨h2, List.pairwise_singleton _ _, ?_⟩, h3⟩) rfl
  · simpa [requestCapacity] using hroom
  · intro x hx y hy hsame
    rw [List.mem_singleton.mp hy] at hsame
    refine hf ?_
    have : s.agent.queue.any r.sameTag = true := List.any_eq_true.mpr ⟨x, hx, by simpa [Request.sameTag] using hsame⟩
    simp [State.inFlight, Agent.inFlight, this]

theorem admission (s : State) (r : Request) (report : Bool) : s.Keeps (s.admission r report).2 := by
  unfold State.admission
  split
  · next e he => exact (setCache_use (List.mem_of_find?_eq_some he)).trans ((raise _ _).trans (raise _ _))
  split
  · exact refl s
  next hf =>
  split
  · next hroom => exact queued hf hroom
  · dsimp only
    split
    · exact raise s _
    · exact refl s

theorem takeFreely (s : State) : s.Keeps s.takeFreely := by
  unfold State.takeFreely
  split
  · split
    · exact takeNext s
    · exact raise s _
  · exact refl s

theorem afterRequest (s : State) (a : Address) : s.Keeps (s.afterRequest a) := by
  refine trans ?_ (takeFreely _)
  unfold State.tellReporter
  split
  · exact raise s _
  · exact refl s

theorem request (s : State) (code : Byte) (q : Req) : s.Keeps (s.request code q) := by
  unfold State.request
  split
  · exact (admission s _ _).trans (afterRequest _ _)
  · exact refl s

/-! ## Arrivals -/

theorem routeStage (s : State) (p : Port) (x : Frame) : s.Keeps (s.routeStage p x).2 := by
  unfold State.routeStage
  split
  · exact forwardTo s _ x
  split
  · exact refl s
  split
  · exact refl s
  · exact forwardTo s _ x

theorem supervise {i : Fin 64} {f : Flow} (hf : s.flow i = some f) (p : Port) (x : Frame) :
    s.Keeps (s.supervise i f p x).2 := by
  unfold State.supervise
  dsimp only
  have entry : s.Keeps ((s.setFlow i (some (f.onArrival s.time (s.gateOpen f.defn) p x).flow)).raiseFlows i f.defn.quiet
      (f.onArrival s.time (s.gateOpen f.defn) p x).causes) :=
    (setFlow hf fun h => Flow.follows_onArrival h _ _ p x).trans (raiseFlows _ _ _ _)
  split
  · exact entry.trans (forwardTo _ _ x)
  · exact entry

theorem passSub {i : Fin 64} {f : Flow} (hf : s.flow i = some f) (x : Frame) : s.Keeps (s.passSub i f x).state :=
  (setFlow hf fun h => Flow.follows_withCounters h _).trans (forwardTo _ _ x)

end State.Keeps

/-- What the lookup finds is the entry as it stands in the table, carries the key and is not DISABLED (R21). -/
theorem State.lookup_eq_some {x : Frame} {i : Fin 64} {f : Flow} (h : s.lookup x = some (i, f)) :
    s.flow i = some f ∧ f.carriesKey x = true ∧ f.state ≠ .disabled := by
  obtain ⟨j, -, hj⟩ := List.exists_of_findSome?_eq_some h
  split at hj
  · next g hg =>
    split at hj
    · next hmatch =>
      cases hj
      simp only [Bool.and_eq_true, decide_eq_true_eq] at hmatch
      exact ⟨hg, hmatch⟩
    · cases hj
  · cases hj

namespace State.Keeps

theorem flowStage (s : State) (p : Port) (x : Frame) : s.Keeps (s.flowStage p x).state := by
  unfold State.flowStage
  split
  case h_1 =>
    split
    · next i f h => exact supervise (State.lookup_eq_some h).1 p x
    · split
      · exact routeStage s p x
      · exact refl s
  case h_2 =>
    split
    · next i f h =>
      split
      · exact passSub (State.lookup_eq_some h).1 x
      · exact routeStage s p x
    · exact routeStage s p x
  all_goals exact routeStage s p x

theorem screen (s : State) (p : Port) (x : Frame) : s.Keeps (s.screen p x).state := by
  unfold State.screen
  split
  · exact raise s _
  split
  · exact refl s
  split
  · exact refl s
  · exact flowStage s p x

theorem conclude {h : Handled} (hs : s.Keeps h.state) (p : Port) (bytes : List Byte) (x : Option Frame) :
    s.Keeps (State.conclude p bytes x h) :=
  hs.trans ((setPort fun hp => hp.countVerdict h.verdict).trans (raise _ _))

theorem handle (s : State) (p : Port) (bytes : List Byte) : s.Keeps (s.handle p bytes) := by
  unfold State.handle
  split
  · exact conclude (refl s) p bytes none
  next x _ =>
  split
  · unfold State.localStage
    split
    · have admitted : s.Keeps (⟨(s.admission (x.request p) true).1, none, (s.admission (x.request p) true).2⟩ :
          Handled).state := admission s _ _
      exact (conclude admitted p bytes (some x)).trans (afterRequest _ _)
    · exact conclude (refl s) p bytes (some x)
  split
  · have screened : s.Keeps (State.screen p x (s.admission (x.request p) false).2).state :=
      (admission s _ _).trans (screen _ p x)
    exact (conclude screened p bytes (some x)).trans (afterRequest _ _)
  · exact conclude (screen s p x) p bytes (some x)

theorem arrive (s : State) (p : Port) (bytes : List Byte) : s.Keeps (s.arrive p bytes) := by
  unfold State.arrive
  split
  · exact refl s
  · have ended : s.Keeps (s.endReception p) := setPort id
    exact ended.trans (handle _ p bytes)

/-! ## Line events and timers -/

theorem qualified (s : State) (p : Port) : s.Keeps (s.qualified p) := by
  unfold State.qualified
  split
  · exact (elapseTo s _).trans ((setPort fun h => h.goOnline).trans (raise _ _))
  · exact refl s

theorem loseSignal (s : State) (p : Port) : s.Keeps (s.loseSignal p) := by
  have lost : s.Keeps ((s.setPort p (s.port p).goOffline).raiseEvent .portOffline (portByte p)) :=
    (setPort fun _ => PortState.ok.goOffline _).trans (raise _ _)
  unfold State.loseSignal
  dsimp only
  split
  · exact setPort id
  · split
    · exact lost.trans (raise _ _)
    · exact lost

theorem completeTransmission (s : State) (p : Port) : s.Keeps (s.completeTransmission p) := by
  unfold State.completeTransmission
  split
  · exact refl s
  next e ends _ =>
  have counted : s.Keeps ((s.elapse ends).setPort p ((s.elapse ends).port p).transmittedOne) :=
    (elapse s _).trans (setPort fun h => h.transmittedOne)
  dsimp only
  split
  · exact counted.trans ((raise _ _).trans ((takeAll _).trans (setPort fun h => h.startNext _)))
  · exact counted.trans (setPort fun h => h.startNext _)

theorem expire (s : State) (i : Fin 64) : s.Keeps (s.expire i) := by
  unfold State.expire
  split
  · exact refl s
  next f hf =>
  split
  · next x r _ hr =>
    dsimp only
    have moved : (s.elapseTo x.deadline).flow i = some f := by
      unfold State.elapseTo State.elapse
      split <;> exact hf
    have entry : s.Keeps (((s.elapseTo x.deadline).setFlow i (some r.flow)).raiseFlows i f.defn.quiet r.cause.toList) :=
      (elapseTo s _).trans ((setFlow moved fun h => Flow.follows_onExpiry h hr).trans (raiseFlows _ _ _ _))
    split
    · exact entry.trans (offerSub _ _ _ _)
    · exact entry
  · exact refl s

theorem visit (s : State) : s.Keeps s.visit := by
  unfold State.visit
  split
  · exact refl s
  next w _ =>
  have visited : s.Keeps ((s.elapseTo w.nextVisit).setFlow w.next none) := (elapseTo s _).trans (setFlow_none _ _)
  dsimp only
  split
  · exact visited.trans (setSweep _ _)
  · exact visited.trans ((setSweep _ none).trans ((withSweepPending _ none).trans (respond _ _ _ _ _)))

theorem sample (s : State) (i : Fin 4) (level : Level) : s.Keeps (s.sample i level) := by
  unfold State.sample
  have sampled : s.Keeps ((s.elapseTo (s.input i).nextSample).setInput i ((s.input i).sampled level)) :=
    (elapseTo s _).trans (setInput _ _ _)
  dsimp only
  split
  · exact sampled.trans (raise _ _)
  · exact sampled

theorem leaseExpires (s : State) : s.Keeps s.leaseExpires := by
  unfold State.leaseExpires
  split
  · exact (elapseTo s _).trans ((endClaim _).trans (raise _ _))
  · exact refl s

theorem ackTimerExpires (s : State) : s.Keeps s.ackTimerExpires := by
  unfold State.ackTimerExpires
  split
  · next t hw _ =>
    have waiting : (s.elapseTo t).reporter.state = .waitAck := by
      unfold State.elapseTo State.elapse
      split <;> exact hw
    refine (elapseTo s t).trans ?_
    dsimp only
    split
    · split
      · next hr => exact resendReport waiting hr _
      · exact stall waiting
    · exact stall waiting
  · exact refl s

theorem completeRequest (s : State) (r : Request) (ends : Time) (reply : Reply) :
    s.Keeps (s.completeRequest r ends reply) := by
  unfold State.completeRequest
  refine (elapseTo s ends).trans ?_
  dsimp only
  split
  · exact (withService _ _).trans ((respond _ _ _ _ _).trans (takeFreely _))
  · exact (unserveSweeping _ _).trans (takeFreely _)
  · exact (withService _ _).trans (respond _ _ _ _ _)

theorem completion (s : State) : s.Keeps s.completion := by
  unfold State.completion
  split
  · exact completeRequest s _ _ _
  · exact refl s
  · exact refl s

end State.Keeps

/-! ## Reset -/

theorem State.port_holdReset (s : State) (p : Port) : s.holdReset.port p = (s.port p).held := by
  cases p <;> rfl

namespace State.Keeps

theorem holdReset (s : State) : s.Keeps s.holdReset where
  pending := rfl
  queues hs p := by
    rw [State.port_holdReset]
    exact (hs p).held
  flows := id
  capture := id
  attention := id
  reporter _ := id
  agent := id

end State.Keeps

/-- Every unit is in order right after a cold reset (R8, R33, R55, R97, R115, R129, R147, R171). -/
theorem State.coldReset_inOrder (s : State) (switch : Address) :
    (s.coldReset switch).queuesOk ∧ (s.coldReset switch).flowsOk ∧ (s.coldReset switch).captureOk
    ∧ (s.coldReset switch).attention.ok ∧ (s.coldReset switch).reporterOk ∧ (s.coldReset switch).agent.orderly := by
  have flow (i) : (s.coldReset switch).flow i = none := by simp [State.flow, State.coldReset, State.reset]
  have ring (k) : (s.coldReset switch).ring k = none := by simp [State.ring, State.coldReset, State.reset]
  refine ⟨fun p => ?ports, ?flows, ⟨by simp [ring], by simp [ring], rfl⟩,
    ⟨Nat.zero_le _, .nil, .nil, .nil, nofun, Nat.zero_le _, Nat.le_refl 1, Nat.le_add_left 1 65534⟩,
    ⟨⟨rfl, rfl, rfl⟩, Nat.le_add_left 5 10, nofun⟩, ⟨Nat.zero_le _, .nil, Nat.zero_le _, .nil, rfl⟩⟩
  case ports => cases p <;> exact PortState.ok.reset
  case flows => simp [State.flowsOk, flow]

theorem State.Keeps.coldReset (s : State) (switch : Address) : s.Keeps (s.coldReset switch) :=
  have ⟨hq, hf, hc, ha, hr, hg⟩ := s.coldReset_inOrder switch
  ⟨rfl, fun _ => hq, fun _ => hf, fun _ => hc, fun _ => ha, fun _ _ => hr, fun _ => hg⟩

/-! ## Commands and steps -/

theorem State.Keeps.event (s : State) (c : Instr) : s.Keeps (s.event c) := by
  unfold State.event
  split
  · exact .request s _ _
  split
  · exact .coldReset s _
  · exact .setPort fun h => h.signalValid _
  · exact .qualified s _
  · exact .loseSignal s _
  · exact .setPort fun h => h.receptionStart
  · exact .arrive s _ _
  · exact .completeTransmission s _
  · exact .expire s _
  · exact .visit s
  · exact .sample s _ _
  · exact .leaseExpires s
  · exact .ackTimerExpires s
  · exact .completion s
  · exact .holdReset s

/-- Every command answers a next state, in which the same commands wait and every unit is in order that was. -/
theorem exec_keeps (c : Instr) (s : State) : ∃ t, exec c s = .next t ∧ s.Keeps t := by
  rcases exec_cases c s with ⟨-, h⟩ | ⟨a, -, h⟩ | ⟨-, h⟩ | ⟨-, h⟩
  · exact ⟨_, h, .holdReset s⟩
  · exact ⟨_, h, .coldReset s a⟩
  · exact ⟨_, h, .refl s⟩
  · exact ⟨_, h, (State.Keeps.event s c).trans (.settle _)⟩

/-- A step keeps every unit in order, from a state with the rest of the queue and some number of choices made. -/
theorem step_keeps (h : step s = .next t) : ∃ l n, ({ s with pending := l, choices := n } : State).Keeps t := by
  rcases step_cases s with ⟨c, rest, n, heq⟩ | ⟨n, heq⟩ <;> rw [heq] at h
  · obtain ⟨u, hu, hk⟩ := exec_keeps c { s with pending := rest, choices := n }
    rw [hu] at h
    cases h
    exact ⟨rest, n, hk⟩
  · cases h
    unfold State.tick
    split
    · exact ⟨s.pending, n, .refl _⟩
    · exact ⟨s.pending, n, .withClock _ _⟩

end Sys2Proof.Machine

/-! ## The statements -/

namespace Sys2Proof.Proofs

open Sys2Proof Sys2Proof.Machine

/-- Settles O6: the rule on the egress queues is carried over by every operation (`State.Keeps`). -/
theorem stepKeepsQueues : Obligations.StepKeepsQueues := by
  intro s t hs h
  obtain ⟨l, n, hk⟩ := step_keeps h
  exact hk.queues hs

/-- Settles O7: the rule on the attention list is carried over by every operation. -/
theorem stepKeepsAttentionList : Obligations.StepKeepsAttentionList := by
  intro s t hs h
  obtain ⟨l, n, hk⟩ := step_keeps h
  exact hk.attention hs

/-- Settles O8: each event replaces an entry by one that follows it, or loads it under a free key and slot. -/
theorem stepKeepsFlowTable : Obligations.StepKeepsFlowTable := by
  intro s t hs h
  obtain ⟨l, n, hk⟩ := step_keeps h
  exact hk.flows hs

/-- Settles O9: each event keeps a ring's definition, or defines it on slots of its own. -/
theorem stepKeepsCaptureUnit : Obligations.StepKeepsCaptureUnit := by
  intro s t hs h
  obtain ⟨l, n, hk⟩ := step_keeps h
  exact hk.capture hs

/-- Settles O10: records are marked REPORTED only as items of the report, which are unacknowledged while they are. -/
theorem stepKeepsReporter : Obligations.StepKeepsReporter := by
  intro s t ha hs h
  obtain ⟨l, n, hk⟩ := step_keeps h
  exact hk.reporter ha hs

/-- Settles O3: every command has an outcome of the kind `next`, and none writes the queue of commands. -/
theorem everyCommandCompletes : Obligations.EveryCommandCompletes := by
  intro c s
  obtain ⟨t, ht, hk⟩ := exec_keeps c s
  exact ⟨t, ht, hk.pending⟩

end Sys2Proof.Proofs
end

section
/-! SUPPORT. The agent's duty to take: an IDLE agent has no queued request but where its take is raised, so it has none when
a command ends (R156). -/
namespace Sys2Proof.Machine

variable {s t u : State}

/-- An IDLE agent with a queued request has its take raised. -/
def State.willTake (s : State) : Prop := s.agent.service = .idle → s.agent.queue = [] ∨ .take ∈ s.raised

/-- The agent's service and queue stay, and what was raised stays raised. -/
structure State.Stays (s t : State) : Prop where
  service : t.agent.service = s.agent.service
  queue : t.agent.queue = s.agent.queue
  raised : ∃ ys, t.raised = s.raised ++ ys

theorem State.Stays.willTake (h : s.Stays t) (hs : s.willTake) : t.willTake := by
  intro hidle
  obtain ⟨ys, hy⟩ := h.raised
  rw [h.queue, hy]
  exact (hs (h.service ▸ hidle)).imp_right (List.mem_append_left _)

namespace State.Stays

theorem of_eq (ha : t.agent = s.agent) (hr : ∃ ys, t.raised = s.raised ++ ys) : s.Stays t :=
  ⟨by rw [ha], by rw [ha], hr⟩

theorem refl (s : State) : s.Stays s := ⟨rfl, rfl, [], by simp⟩

theorem trans (h : s.Stays t) (h' : t.Stays u) : s.Stays u := by
  obtain ⟨ys, hy⟩ := h.raised
  obtain ⟨zs, hz⟩ := h'.raised
  exact ⟨h'.service.trans h.service, h'.queue.trans h.queue, ys ++ zs, by rw [hz, hy, List.append_assoc]⟩

theorem raise (s : State) (x : Raised) : s.Stays (s.raise x) := ⟨rfl, rfl, [x], rfl⟩

theorem setPort (s : State) (p : Port) (x : PortState) : s.Stays (s.setPort p x) := ⟨rfl, rfl, [], by simp⟩

theorem setFlow (s : State) (i : Fin 64) (x : Option Flow) : s.Stays (s.setFlow i x) := ⟨rfl, rfl, [], by simp⟩

theorem setReporter (s : State) (r : Reporter) : s.Stays (s.setReporter r) := ⟨rfl, rfl, [], by simp⟩

theorem setSweep (s : State) (w : Option Sweep) : s.Stays (s.setSweep w) := ⟨rfl, rfl, [], by simp⟩

theorem setInput (s : State) (i : Fin 4) (x : Sense) : s.Stays (s.setInput i x) := ⟨rfl, rfl, [], by simp⟩

theorem withSweepPending (s : State) (w : Option Request) : s.Stays (s.setAgent { s.agent with sweepPending := w }) :=
  ⟨rfl, rfl, [], by simp⟩

theorem endClaim (s : State) : s.Stays (s.setAgent { s.agent with holder := none, lease := none }) :=
  ⟨rfl, rfl, [], by simp⟩

theorem elapse (s : State) (m : Moment) : s.Stays (s.elapse m) := by
  unfold State.elapse
  split
  · exact ⟨rfl, rfl, [], by simp⟩
  · exact refl s

theorem elapseTo (s : State) (t : Time) : s.Stays (s.elapseTo t) := elapse s _

theorem offerAll (s : State) (set : BitVec 3) (e : QueueEntry) : s.Stays (s.offerAll set e) := by
  rw [State.offerAll_eq]
  exact ⟨rfl, rfl, _, rfl⟩

theorem forwardTo (s : State) (set : BitVec 3) (x : Frame) : s.Stays (s.forwardTo set x) := offerAll s set _

theorem supervise (s : State) (i : Fin 64) (f : Flow) (p : Port) (x : Frame) : s.Stays (s.supervise i f p x).2 := by
  obtain ⟨g, ys, h⟩ := s.supervise_frame i f p x
  rw [h]
  exact ⟨rfl, rfl, ys, rfl⟩

theorem routeStage (s : State) (p : Port) (x : Frame) : s.Stays (s.routeStage p x).2 := by
  unfold State.routeStage
  split
  · exact forwardTo s _ x
  split
  · exact refl s
  split
  · exact refl s
  · exact forwardTo s _ x

theorem flowStage (s : State) (p : Port) (x : Frame) : s.Stays (s.flowStage p x).state := by
  unfold State.flowStage
  split
  case h_1 =>
    split
    · exact supervise s _ _ p x
    · split
      · exact routeStage s p x
      · exact refl s
  case h_2 =>
    split
    · split
      · exact (setFlow s _ _).trans (forwardTo _ _ x)
      · exact routeStage s p x
    · exact routeStage s p x
  all_goals exact routeStage s p x

theorem screen (s : State) (p : Port) (x : Frame) : s.Stays (s.screen p x).state := by
  unfold State.screen
  split
  · exact raise s _
  split
  · exact refl s
  split
  · exact refl s
  · exact flowStage s p x

theorem conclude {h : Handled} (hs : s.Stays h.state) (p : Port) (bytes : List Byte) (x : Option Frame) :
    s.Stays (State.conclude p bytes x h) :=
  hs.trans ((setPort _ _ _).trans (raise _ _))

theorem sendReport (s : State) (dest : Address) (ids : List Nat) : s.Stays (s.sendReport dest ids) := by
  obtain ⟨rs, ps, ys, h⟩ := s.sendReport_frame dest ids
  rw [h]
  exact ⟨rfl, rfl, ys, rfl⟩

theorem respond (s : State) (r : Request) (st : Status) (results : List Byte) (mark : Bool) :
    s.Stays (s.respond r st results mark) := by
  obtain ⟨c, ps, ys, h⟩ := s.respond_frame r st results mark
  rw [h]
  exact ⟨rfl, rfl, ys, rfl⟩

theorem raiseFlows (s : State) (i : Fin 64) (quiet : Bool) (cs : List Cause) : s.Stays (s.raiseFlows i quiet cs) := by
  rw [State.raiseFlows_eq]
  exact ⟨rfl, rfl, _, rfl⟩

theorem offerSub (s : State) (i : Fin 64) (set : BitVec 3) (x : Frame) : s.Stays (s.offerSub i set x) :=
  (offerAll s set _).trans (raise _ _)

end State.Stays

/-! ## The takings -/

theorem State.Continues.warmRestart (s : State) : s.Continues s.warmRestart :=
  .of_not_stalled ⟨[], by simp [State.warmRestart]⟩ nofun

theorem State.Continues.foldl {α : Type} {f : State → α → State} (h : ∀ (t : State) a, t.Continues (f t a))
    (l : List α) : ∀ s : State, s.Continues (l.foldl f s) := by
  induction l with
  | nil => exact State.Continues.refl
  | cons a rest ih => exact fun s => (h s a).trans (ih _)

theorem State.Continues.record (s : State) (n : Notice) (k : Fin 8) : s.Continues (s.record n k) := by
  obtain ⟨c, ys, h⟩ := s.record_frame n k
  rw [h]
  exact ⟨⟨ys, rfl⟩, fun h => ⟨h, rfl⟩⟩

theorem State.Continues.triggerBy (s : State) (c : Cause) (o : Byte) (k : Fin 8) : s.Continues (s.triggerBy c o k) := by
  obtain ⟨x, ys, h⟩ := s.triggerBy_frame c o k
  rw [h]
  exact ⟨⟨ys, rfl⟩, fun h => ⟨h, rfl⟩⟩

/-- No taking takes anything from what is raised, and none begins a stall. -/
theorem State.Continues.takeRaised (s : State) (x : Raised) : s.Continues (s.takeRaised x) := by
  cases x with
  | attention e => exact .takeAttention s e
  | announce c o => exact .foldl (fun t k => .triggerBy t c o k) _ s
  | notice n => exact .foldl (fun t k => .record t n k) _ s
  | restart => exact .warmRestart s
  | offer p e => exact .enqueue s p e
  | take => exact .takeNext s
  | stallExit a => exact .stallExit s a

/-- Every taking but the agent's own leaves the agent, or is the warm restart, which empties its queue. -/
theorem State.agent_takeRaised (s : State) {x : Raised} (hx : x ≠ .take) :
    (s.takeRaised x).agent = s.agent ∨ (s.takeRaised x).agent.queue = [] := by
  cases x with
  | attention e => exact .inl (s.takeAttention_agent e)
  | announce c o =>
    obtain ⟨x, ys, h⟩ := s.takeAnnounce_frame c o
    exact .inl (by rw [State.takeRaised, h])
  | notice n =>
    obtain ⟨x, ys, h⟩ := s.takeNotice_frame n
    exact .inl (by rw [State.takeRaised, h])
  | restart => exact .inr rfl
  | offer p e =>
    obtain ⟨x, ys, h⟩ := s.enqueue_frame p e
    exact .inl (by rw [State.takeRaised, h]; rfl)
  | take => exact absurd rfl hx
  | stallExit a =>
    left
    show (s.stallExit a).agent = s.agent
    unfold State.stallExit
    split
    · exact s.leaveStall_agent
    · rfl

/-- After the agent's take it serves a request, or it could take none. -/
theorem State.willTake_takeNext (s : State) : s.takeNext.willTake := by
  intro hidle
  rcases s.takeNext_cases with ⟨h, hbusy⟩ | ⟨r, rest, -, h⟩ <;> rw [h] at hidle ⊢
  · exact .inl (hbusy.resolve_left (not_not.mpr hidle))
  · rw [State.take_eq] at hidle
    cases hidle

theorem State.willTake_takeFreely (s : State) : s.takeFreely.willTake := by
  unfold State.takeFreely
  split
  · split
    · exact s.willTake_takeNext
    · exact fun _ => .inr (List.mem_append_right _ List.mem_cons_self)
  · next hno =>
    intro hidle
    left
    cases hq : s.agent.queue with
    | nil => rfl
    | cons r rest => exact absurd hq (hno r rest hidle)

/-- One taking keeps the duty: the agent's take stays raised until it is taken. -/
theorem State.willTake_takeOne (h : s.willTake) : s.takeOne.willTake := by
  by_cases hr : s.raised = []
  · have none : s.candidates = [] := by
      have := s.length_candidates_le
      rw [hr] at this
      exact List.length_eq_zero_iff.mp (Nat.le_zero.mp this)
    simpa [State.takeOne, none, State.choose] using h
  obtain ⟨x, hx, n, heq⟩ := State.takeOne_eq hr
  rw [heq]
  by_cases hxt : x = .take
  · subst hxt
    exact State.willTake_takeNext _
  · have before : ({ s with raised := s.raised.erase x, choices := n } : State).willTake := fun hidle =>
      (h hidle).imp_right fun hmem => (List.mem_erase_of_ne fun h => hxt h.symm).mpr hmem
    obtain ⟨ys, hy⟩ := (State.Continues.takeRaised { s with raised := s.raised.erase x, choices := n } x).raised
    rcases State.agent_takeRaised { s with raised := s.raised.erase x, choices := n } hxt with ha | hq
    · exact (State.Stays.of_eq ha ⟨ys, hy⟩).willTake before
    · exact fun _ => .inl hq

theorem State.willTake_drain (n : Nat) : ∀ s : State, s.willTake → (s.drain n).willTake := by
  induction n with
  | zero => exact fun s h => h
  | succ n ih =>
    intro s h
    have pruned : s.prune.willTake := fun hidle =>
      (h hidle).imp_right fun hmem => List.mem_filter.mpr ⟨hmem, rfl⟩
    unfold State.drain
    dsimp only
    split
    · exact pruned
    · exact ih _ (State.willTake_takeOne pruned)

theorem State.willTake_takeAll (h : s.willTake) : s.takeAll.willTake := State.willTake_drain _ s h

/-! ## The events -/

theorem State.willTake_afterRequest (s : State) (a : Address) : (s.afterRequest a).willTake :=
  State.willTake_takeFreely _

theorem State.willTake_handle (h : s.willTake) (p : Port) (bytes : List Byte) : (s.handle p bytes).willTake := by
  unfold State.handle
  split
  · exact (State.Stays.conclude (.refl s) p bytes none).willTake h
  next x _ =>
  split
  · unfold State.localStage
    split
    · exact State.willTake_afterRequest _ _
    · exact (State.Stays.conclude (.refl s) p bytes (some x)).willTake h
  split
  · exact State.willTake_afterRequest _ _
  · exact (State.Stays.conclude (.screen s p x) p bytes (some x)).willTake h

theorem State.willTake_completeTransmission (h : s.willTake) (p : Port) : (s.completeTransmission p).willTake := by
  unfold State.completeTransmission
  split
  · exact h
  next e ends _ =>
  have counted : ((s.elapse ends).setPort p ((s.elapse ends).port p).transmittedOne).willTake :=
    ((State.Stays.elapse s _).trans (.setPort _ _ _)).willTake h
  dsimp only
  split
  · exact (State.Stays.setPort _ _ _).willTake (State.willTake_takeAll ((State.Stays.raise _ _).willTake counted))
  · exact (State.Stays.setPort _ _ _).willTake counted

theorem State.Stays.expire (s : State) (i : Fin 64) : s.Stays (s.expire i) := by
  unfold State.expire
  split
  · exact refl s
  next f _ =>
  split
  · next x r _ _ =>
    have entry : s.Stays (((s.elapseTo x.deadline).setFlow i (some r.flow)).raiseFlows i f.defn.quiet r.cause.toList) :=
      (elapseTo s _).trans ((setFlow _ _ _).trans (raiseFlows _ _ _ _))
    dsimp only
    split
    · exact entry.trans (offerSub _ _ _ _)
    · exact entry
  · exact refl s

theorem State.Stays.visit (s : State) : s.Stays s.visit := by
  unfold State.visit
  split
  · exact refl s
  next w _ =>
  have visited : s.Stays ((s.elapseTo w.nextVisit).setFlow w.next none) := (elapseTo s _).trans (setFlow _ _ _)
  dsimp only
  split
  · exact visited.trans (setSweep _ _)
  · exact visited.trans ((setSweep _ none).trans ((withSweepPending _ none).trans (respond _ _ _ _ _)))

theorem State.Stays.sample (s : State) (i : Fin 4) (level : Level) : s.Stays (s.sample i level) := by
  have sampled : s.Stays ((s.elapseTo (s.input i).nextSample).setInput i ((s.input i).sampled level)) :=
    (elapseTo s _).trans (setInput _ _ _)
  unfold State.sample
  dsimp only
  split
  · exact sampled.trans (raise _ _)
  · exact sampled

theorem State.Stays.leaseExpires (s : State) : s.Stays s.leaseExpires := by
  unfold State.leaseExpires
  split
  · exact (elapseTo s _).trans ((endClaim _).trans (raise _ _))
  · exact refl s

theorem State.Stays.ackTimerExpires (s : State) : s.Stays s.ackTimerExpires := by
  unfold State.ackTimerExpires
  split
  · next t _ _ =>
    refine (elapseTo s t).trans ?_
    dsimp only
    split
    · split
      · exact (setReporter _ _).trans (sendReport _ _ _)
      · exact setReporter _ _
    · exact setReporter _ _
  · exact refl s

theorem State.Stays.loseSignal (s : State) (p : Port) : s.Stays (s.loseSignal p) := by
  have lost : s.Stays ((s.setPort p (s.port p).goOffline).raiseEvent .portOffline (portByte p)) :=
    (setPort _ _ _).trans (raise _ _)
  unfold State.loseSignal
  dsimp only
  split
  · exact setPort _ _ _
  · split
    · exact lost.trans (raise _ _)
    · exact lost

theorem State.Stays.qualified (s : State) (p : Port) : s.Stays (s.qualified p) := by
  unfold State.qualified
  split
  · exact (elapseTo s _).trans ((setPort _ _ _).trans (raise _ _))
  · exact refl s

theorem State.willTake_completion (h : s.willTake) : s.completion.willTake := by
  unfold State.completion
  split
  · unfold State.completeRequest
    dsimp only
    split
    · exact State.willTake_takeFreely _
    · exact State.willTake_takeFreely _
    · exact (State.Stays.respond _ _ _ _ _).willTake nofun
  · exact h
  · exact h

theorem State.willTake_event (h : s.willTake) (c : Instr) : (s.event c).willTake := by
  unfold State.event
  split
  · unfold State.request
    split
    · exact State.willTake_afterRequest _ _
    · exact h
  split
  · exact fun _ => .inl rfl
  · exact (State.Stays.setPort _ _ _).willTake h
  · exact (State.Stays.qualified s _).willTake h
  · exact (State.Stays.loseSignal s _).willTake h
  · exact (State.Stays.setPort _ _ _).willTake h
  · unfold State.arrive
    split
    · exact h
    · exact State.willTake_handle ((State.Stays.setPort s _ _).willTake h) _ _
  · exact State.willTake_completeTransmission h _
  · exact (State.Stays.expire s _).willTake h
  · exact (State.Stays.visit s).willTake h
  · exact (State.Stays.sample s _ _).willTake h
  · exact (State.Stays.leaseExpires s).willTake h
  · exact (State.Stays.ackTimerExpires s).willTake h
  · exact State.willTake_completion h
  · exact (State.Stays.of_eq rfl ⟨[], by simp [State.holdReset]⟩ : s.Stays s.holdReset).willTake h

/-- With nothing raised, an IDLE agent has no queued request. -/
theorem State.willTake.queue_nil (h : s.willTake) (hr : s.raised = []) (hidle : s.agent.service = .idle) :
    s.agent.queue = [] := by
  simpa [hr] using h hidle

/-- A command keeps the rule on an IDLE agent. -/
theorem exec_keeps_idle {c : Instr} (h : exec c s = .next t) (hs : s.agent.service = .idle → s.agent.queue = []) :
    t.agent.service = .idle → t.agent.queue = [] := by
  rcases exec_cases c s with ⟨-, hc⟩ | ⟨a, -, hc⟩ | ⟨-, hc⟩ | ⟨-, hc⟩ <;> rw [hc] at h <;> cases h
  · exact hs
  · exact fun _ => rfl
  · exact hs
  · exact (State.willTake_takeAll (State.willTake_event (fun hidle => .inl (hs hidle)) c)).queue_nil
      (State.takeAll_raised _)

end Sys2Proof.Machine

/-! ## The statements -/

namespace Sys2Proof.Proofs

open Sys2Proof Sys2Proof.Machine

/-- Settles O11: capacities, order and lease are carried over by every operation (`State.Keeps`); an IDLE agent with a
queued request has its take raised (`State.willTake`), and nothing raised is left. -/
theorem stepKeepsAgent : Obligations.StepKeepsAgent := by
  intro s t hs h
  obtain ⟨horderly, hidle⟩ := (Agent.ok_iff _).mp hs
  obtain ⟨l, n, hk⟩ := step_keeps h
  refine (Agent.ok_iff _).mpr ⟨hk.agent horderly, ?_⟩
  rcases step_cases s with ⟨c, rest, n, heq⟩ | ⟨n, heq⟩ <;> rw [heq] at h
  · exact exec_keeps_idle h hidle
  · cases h
    unfold State.tick
    split <;> exact hidle

/-- Settles O12: every command ends with ALERT brought up to date, and a reset deasserts it. -/
theorem stepKeepsAlert : Obligations.StepKeepsAlert := by
  intro s t hs h
  rcases step_cases s with ⟨c, rest, n, heq⟩ | ⟨n, heq⟩ <;> rw [heq] at h
  · rcases exec_cases c { s with pending := rest, choices := n } with ⟨-, hc⟩ | ⟨a, -, hc⟩ | ⟨-, hc⟩ | ⟨-, hc⟩ <;>
      rw [hc] at h <;> cases h
    · rfl
    · rfl
    · exact hs
    · rfl
  · cases h
    unfold State.tick
    split <;> exact hs

end Sys2Proof.Proofs
end

section
/-! SUPPORT. The step on an empty queue (log 1), and the two resets (R8). -/
namespace Sys2Proof.Machine

variable {s : State}

/-! ## What is due -/

/-- Where a sample is due, none is skipped as inert before it; where none is, all are inert. -/
theorem State.samplesInert_of_none_due (h : s.samplesDue = []) : s.samplesInert = true := by
  rw [State.samplesDue, List.flatMap_eq_nil_iff] at h
  exact List.all_eq_true.mpr fun i hi => by simp [h i hi]

theorem State.nextDue_held (h : s.resetAsserted = true) : s.nextDue = (none, s) := if_pos h

theorem State.nextDue_none_due (h : s.resetAsserted = false) (he : s.eventsDue = []) (hs : s.samplesDue = []) :
    s.nextDue = (none, s) := by
  simp [State.nextDue, h, he, hs, State.samplesInert_of_none_due hs]

/-- Where something is due, one of the events due is taken. -/
theorem State.nextDue_due (h : s.resetAsserted = false) (hd : s.eventsDue ++ s.samplesDue ≠ []) :
    ∃ c ∈ s.eventsDue ++ s.samplesDue, ∃ n, s.nextDue = (some c, { s with choices := n }) := by
  unfold State.nextDue
  rw [if_neg (by simp [h])]
  split
  · next hinert =>
    obtain ⟨hevents, -⟩ := Bool.and_eq_true_iff.mp hinert
    rw [List.isEmpty_iff.mp hevents, List.nil_append] at hd ⊢
    obtain ⟨c, rest, hc⟩ := List.exists_cons_of_ne_nil hd
    exact ⟨c, by simp [hc], s.choices, by simp [hc]⟩
  · have pos := List.length_pos_iff.mpr hd
    have chosen : ∃ i n, i < (s.eventsDue ++ s.samplesDue).length
        ∧ s.choose (s.eventsDue ++ s.samplesDue).length = (i, { s with choices := n }) := by
      unfold State.choose
      split
      · exact ⟨0, s.choices, pos, rfl⟩
      · exact ⟨_, _, Nat.mod_lt _ pos, rfl⟩
    obtain ⟨i, n, hi, hch⟩ := chosen
    exact ⟨_, List.getElem_mem hi, n, by simp only [hch, List.getElem?_eq_getElem hi]⟩

theorem step_of_pending_nil (h : s.pending = []) {c : Option Instr} {t : State} (hd : s.nextDue = (c, t)) :
    step s = match c with
      | some c => exec c t
      | none => .next t.tick := by
  simp only [step, h, hd]
  cases c <;> rfl

/-! ## Cold reset (R8) -/

theorem PortState.reset_cold : PortState.reset.cold :=
  ⟨rfl, rfl, rfl, rfl, rfl, rfl, rfl, rfl, rfl, rfl, fun i => by simp [PortState.reset], rfl, rfl, rfl⟩

theorem State.input_coldReset (s : State) (switch : Address) (i : Fin 4) :
    (s.coldReset switch).input i = { Sense.reset with terminal := (s.input i).terminal } := by
  simp [State.input, State.coldReset, vmap]

theorem Attention.setting_reset (c : Cause) :
    (Attention.reset.setting c).masked = false ∧ (Attention.reset.setting c).rank = c.defaultRank := by
  cases c <;> exact ⟨rfl, rfl⟩

/-- A cold reset gives every block its cold-reset values. -/
theorem State.coldReset_cold (s : State) (switch : Address) : (s.coldReset switch).cold switch := by
  refine ⟨rfl, rfl, rfl, rfl, fun p => ?_, fun a => ?_, fun i => ?_, rfl, rfl, rfl, rfl,
    fun c => ⟨(Attention.setting_reset c).1, fun _ => (Attention.setting_reset c).2⟩, rfl, rfl, rfl, rfl, rfl,
    fun k => ?_, fun i => ?_, rfl, rfl, rfl, rfl, rfl, rfl, ⟨rfl, rfl, rfl, rfl, rfl, rfl, rfl, rfl⟩⟩
  · cases p <;> exact PortState.reset_cold
  · simp [State.coldReset, State.reset]
  · simp [State.flow, State.coldReset, State.reset]
  · simp [State.ring, State.coldReset, State.reset]
  · rw [State.input_coldReset]
    exact ⟨rfl, rfl, rfl, rfl, rfl, rfl, rfl⟩

/-- The state after reset is a cold reset of itself, with the switch at 0. -/
theorem State.reset_eq_coldReset : State.reset.coldReset 0 = State.reset := rfl

end Sys2Proof.Machine

/-! ## The statements -/

namespace Sys2Proof.Proofs

open Sys2Proof Sys2Proof.Machine

/-- Settles O1: the step's first branch. -/
theorem stepRunsFrontCommand : Obligations.StepRunsFrontCommand := by
  intro c rest s h
  simp only [step, h]

/-- Settles O2: what is due decides what the step on an empty queue is. -/
theorem stepOnEmptyQueue : Obligations.StepOnEmptyQueue := by
  refine fun s hq => ⟨fun hr => ?held, fun hr he hs => ?tick, fun hr hd => ?due⟩
  case held =>
    rw [step_of_pending_nil hq (State.nextDue_held hr)]
    simp [State.tick, hr]
  case tick =>
    rw [step_of_pending_nil hq (State.nextDue_none_due hr he hs)]
    simp [State.tick, hr]
  case due =>
    obtain ⟨c, hc, n, hn⟩ := State.nextDue_due hr hd
    exact ⟨c, hc, n, step_of_pending_nil hq hn⟩

/-- Settles O4: the two resets, and every other command while RESET is asserted. -/
theorem resetHoldsAndColdResetClears : Obligations.ResetHoldsAndColdResetClears := by
  refine ⟨⟨fun s => ⟨s.holdReset, rfl, rfl, rfl, fun p => s.port_holdReset p, rfl⟩, fun s c hs hr hc => ?_⟩,
    fun a s => ⟨s.coldReset a, rfl, s.coldReset_cold a, rfl, fun i => ?_⟩⟩
  · rcases exec_cases c s with ⟨h, -⟩ | ⟨a, h, -⟩ | ⟨-, h⟩ | ⟨h, -⟩
    · exact absurd h hr
    · exact absurd h (hc a)
    · exact h
    · simp [hs] at h
  · rw [State.input_coldReset]

/-- Settles O5: the state after reset is a cold reset, and a cold reset leaves every unit in order. -/
theorem resetStateIsColdAndInOrder : Obligations.ResetStateIsColdAndInOrder := by
  have cold := State.reset.coldReset_cold 0
  obtain ⟨queues, flows, capture, attention, reporter, agent⟩ := State.reset.coldReset_inOrder 0
  rw [State.reset_eq_coldReset] at *
  exact ⟨cold, rfl, rfl, queues, attention, flows, capture, reporter, (Agent.ok_iff _).mpr ⟨agent, fun _ => rfl⟩, rfl⟩

end Sys2Proof.Proofs
end

section
/-! SUPPORT. Line events, transmissions and the warm restart (R10, R88, R91, R170), and the fields of a substitute (R74). -/
namespace Sys2Proof.Machine

variable {s : State} {p : Port}

/-! ## The clock moved on -/

theorem State.elapse_eq (s : State) (m : Moment) : ∃ m', s.elapse m = { s with clock := m' } := by
  unfold State.elapse
  split
  · exact ⟨m, rfl⟩
  · exact ⟨s.clock, rfl⟩

@[simp] theorem State.port_elapse (s : State) (m : Moment) (p : Port) : (s.elapse m).port p = s.port p := by
  obtain ⟨m', h⟩ := s.elapse_eq m
  rw [h]
  rfl

@[simp] theorem State.raised_elapse (s : State) (m : Moment) : (s.elapse m).raised = s.raised := by
  obtain ⟨m', h⟩ := s.elapse_eq m
  rw [h]

theorem State.setPort_self (s : State) (p : Port) : s.setPort p (s.port p) = s := by
  cases p <;> rfl

theorem State.setPort_setPort (s : State) (p : Port) (x y : PortState) :
    (s.setPort p x).setPort p y = s.setPort p y := by
  cases p <;> rfl

/-! ## Line state (R10, R91) -/

theorem PortState.signalValid_starts {x : PortState} (hl : x.line = .offline) (hq : x.qualification = none) (t : Time) :
    x.signalValid t = { x with qualification := some (t + 100) } := by
  simp only [PortState.signalValid, hl, hq]

theorem PortState.signalValid_idle {x : PortState} (h : x.line = .online ∨ x.qualification ≠ none) (t : Time) :
    x.signalValid t = x := by
  unfold PortState.signalValid
  split
  · next hl hq => rcases h with h | h <;> simp_all
  · rfl

theorem State.qualified_ends {e : Time} (hl : (s.port p).line = .offline) (hq : (s.port p).qualification = some e) :
    s.qualified p = ((s.elapseTo e).setPort p { s.port p with line := .online, qualification := none }).raiseEvent
      .portOnline (portByte p) := by
  have port : (s.elapseTo e).port p = s.port p := s.port_elapse _ p
  simp only [State.qualified, hl, hq, port]

theorem State.qualified_idle (h : (s.port p).line = .online ∨ (s.port p).qualification = none) : s.qualified p = s := by
  unfold State.qualified
  split
  · next hl hq => rcases h with h | h <;> simp_all
  · rfl

theorem PortState.receptionStart_online {x : PortState} (h : x.line = .online) :
    x.receptionStart = { x with receiving := true } := by
  simp only [PortState.receptionStart, h]

theorem PortState.receptionStart_offline {x : PortState} (h : x.line = .offline) : x.receptionStart = x := by
  simp only [PortState.receptionStart, h]

theorem State.loseSignal_offline (h : (s.port p).line = .offline) :
    s.loseSignal p = s.setPort p { s.port p with qualification := none } := by
  simp only [State.loseSignal, h]

theorem State.loseSignal_online (h : (s.port p).line = .online) :
    s.loseSignal p =
      (if (s.port p).holdsMark then
        ((s.setPort p (s.port p).goOffline).raiseEvent .portOffline (portByte p)).raise .restart
       else (s.setPort p (s.port p).goOffline).raiseEvent .portOffline (portByte p)) := by
  simp only [State.loseSignal, h]

/-! ## Transmissions (R88, R90) -/

theorem State.completeTransmission_idle (h : (s.port p).transmitter = .idle) : s.completeTransmission p = s := by
  simp only [State.completeTransmission, h]

/-- The completion of a frame without the restart mark: counted, and the next frame taken. -/
theorem State.completeTransmission_plain {e : QueueEntry} {ends : Moment}
    (h : (s.port p).transmitter = .sending e ends) (hm : e.restartMark = false) :
    s.completeTransmission p =
      (s.elapse ends).setPort p ((s.port p).transmittedOne.startNext (s.elapse ends).clock) := by
  simp only [State.completeTransmission, h, hm, Bool.false_eq_true, if_false, State.port_elapse,
    State.port_setPort_same, State.setPort_setPort, State.clock_setPort]

/-- With nothing else raised, the warm restart is all that its order brings. -/
theorem State.takeAll_raise_restart (h : s.raised = []) : (s.raise .restart).takeAll = s.warmRestart := by
  rw [State.takeAll_of_single (x := .restart) (by simp [h]) rfl]
  have cleared : ({ s.raise .restart with raised := [] } : State) = s := by
    cases s
    simp_all [State.raise]
  rw [cleared]
  exact State.takeAll_nil _ h

/-- The warm restart empties the queues, so the transmitter takes no frame (R96). -/
theorem PortState.startNext_warm (x : PortState) (now : Moment) : x.warm.startNext now = x.warm :=
  PortState.startNext_eq_self (.inr (.inr ⟨rfl, rfl⟩))

/-- The completion of the RESTART response makes the warm restart. -/
theorem State.completeTransmission_marked {e : QueueEntry} {ends : Moment}
    (h : (s.port p).transmitter = .sending e ends) (hm : e.restartMark = true) (hr : s.raised = []) :
    s.completeTransmission p = ((s.elapse ends).setPort p (s.port p).transmittedOne).warmRestart := by
  have restarted := State.takeAll_raise_restart (s := (s.elapse ends).setPort p (s.port p).transmittedOne)
    (by simpa using hr)
  simp only [State.completeTransmission, h, hm, if_true, State.port_elapse, restarted]
  rw [State.port_warmRestart, PortState.startNext_warm, ← State.port_warmRestart, State.setPort_self]

end Sys2Proof.Machine

/-! ## The statements -/

namespace Sys2Proof.Proofs

open Sys2Proof Sys2Proof.Machine

/-- Settles O16: each of the three events where it can occur and where it cannot. -/
theorem lineComesOnline : Obligations.LineComesOnline := by
  intro p s hs
  have valid : exec (.signalValid p) s = .next (s.setPort p ((s.port p).signalValid s.time)).settle :=
    exec_of_free rfl hs
  have expiry : exec (.qualificationExpiry p) s = .next (s.qualified p).settle := exec_of_free rfl hs
  have reception : exec (.receptionStart p) s = .next (s.setPort p (s.port p).receptionStart).settle :=
    exec_of_free rfl hs
  rw [valid, expiry, reception]
  refine ⟨fun hl hq => ?_, fun h => ?_, fun e hl hq => ?_, fun h => ?_, fun hl => ?_, fun hl => ?_⟩
  · rw [PortState.signalValid_starts hl hq]
  · rw [PortState.signalValid_idle h, State.setPort_self]
  · rw [State.qualified_ends hl hq]
  · rw [State.qualified_idle h]
  · rw [PortState.receptionStart_online hl]
  · rw [PortState.receptionStart_offline hl, State.setPort_self]

/-- Settles O17: the port afterwards is `PortState.goOffline`, field by field; the restart mark orders the restart. -/
theorem signalLossTakesPortOffline : Obligations.SignalLossTakesPortOffline := by
  intro p s hs
  have lost : exec (.signalLost p) s = .next (s.loseSignal p).settle := exec_of_free rfl hs
  rw [lost]
  refine ⟨fun hl => by rw [State.loseSignal_offline hl], fun hl => ⟨(s.port p).goOffline, rfl, rfl, rfl, rfl, rfl, rfl,
    rfl, ?fragments, ?aborted, rfl, rfl, rfl, rfl, rfl, fun hm => ?unmarked, fun hm => ?marked⟩⟩
  case fragments => cases hr : (s.port p).receiving <;> simp [PortState.goOffline, hr]
  case aborted =>
    cases ht : (s.port p).transmitter <;> simp [PortState.goOffline, Transmitter.busy, ht]
  case unmarked => simp [State.loseSignal_online hl, hm]
  case marked => simp [State.loseSignal_online hl, hm]

/-- Settles O18: no transmission, one without and one with the restart mark. -/
theorem transmissionCompletes : Obligations.TransmissionCompletes := by
  intro p s hs
  have complete : exec (.transmissionComplete p) s = .next (s.completeTransmission p).settle := exec_of_free rfl hs
  rw [complete]
  refine ⟨fun ht => ?_, fun e ends ht hm => ?_, fun e ends ht hm hr => ?_⟩
  · rw [State.completeTransmission_idle ht]
  · rw [State.completeTransmission_plain ht hm]
    rfl
  · rw [State.completeTransmission_marked ht hm hr, State.settle_nil _ (by simpa [State.warmRestart] using hr)]
    rfl

/-- Settles O20: ports, entries and rings by their warm restarts, the other blocks as `State.warmRestart` writes them. -/
theorem warmRestartAtEveryBlock : Obligations.WarmRestartAtEveryBlock := by
  intro s t
  refine ⟨s.port_warmRestart, fun i hi => ?_, fun i f hf => ⟨f.warm, ?_, rfl, rfl, rfl, rfl, rfl, rfl, rfl, rfl, rfl,
    fun hd => if_pos hd, fun hd => if_neg hd⟩, rfl, rfl, rfl, fun k hk => ?_, fun k r hk hr => ?_, fun k r hk hr => ?_,
    rfl, rfl, rfl, rfl, rfl, rfl, rfl⟩
  · exact (s.flow_warmRestart i).trans (by rw [hi]; rfl)
  · exact (s.flow_warmRestart i).trans (by rw [hf]; rfl)
  · exact (s.ring_warmRestart k).trans (by rw [hk]; rfl)
  · exact (s.ring_warmRestart k).trans (by rw [hk, Option.map_some, Ring.warm, if_pos hr])
  · exact (s.ring_warmRestart k).trans (by rw [hk, Option.map_some, Ring.warm, if_neg hr])

/-- Settles O30: the frame as `Frame.build` makes it, its SEQ the last one and the misses since. -/
theorem substituteFrameFields : Obligations.SubstituteFrameFields := by
  intro f last hop content hlast y
  refine ⟨rfl, rfl, rfl, rfl, rfl, ?_, rfl, rfl, rfl, rfl, rfl, rfl⟩
  have seq : y.seq = last + byte f.misses := by
    show f.generatedSeq = _
    rw [Flow.generatedSeq, hlast]
    rfl
  rw [seq, BitVec.toNat_add, byte, BitVec.toNat_ofNat, Nat.add_mod_mod]

end Sys2Proof.Proofs
end

section
/-! SUPPORT. Encodings that read back: frames (R1, R6, R173), the codes of values, and flow definitions (R35, R176). -/
namespace Sys2Proof.Machine

/-! ## Frames -/

@[simp] theorem Kind.ofCode_code (k : Kind) : Kind.ofCode k.code = some k := by
  cases k <;> rfl

/-- The two bytes of an FCS, joined again. -/
theorem join_fcs_bytes (c : BitVec 16) : c.extractLsb' 8 8 ++ c.extractLsb' 0 8 = c :=
  BitVec.extractLsb'_append_extractLsb'

/-- The kind, the channel and the spare bit that the third byte of a frame packs. -/
theorem unpack_kindByte (k : BitVec 3) (ch : BitVec 4) (b : Bool) :
    (k ++ ch ++ BitVec.ofBool b).extractLsb' 5 3 = k ∧ (k ++ ch ++ BitVec.ofBool b).extractLsb' 1 4 = ch := by
  constructor
  · rw [BitVec.extractLsb'_append_eq_of_le (by decide)]
    exact BitVec.extractLsb'_append_eq_left
  · rw [BitVec.extractLsb'_append_eq_of_le (by decide)]
    exact BitVec.extractLsb'_append_eq_right

theorem getLsbD_zero_append_ofBool {n : Nat} (a : BitVec n) (b : Bool) : (a ++ BitVec.ofBool b).getLsbD 0 = b := by
  rw [BitVec.getLsbD_append]
  cases b <;> rfl

theorem toNat_byte (n : Nat) : (byte n).toNat = n % 256 := BitVec.toNat_ofNat n 8

theorem toNat_byte_of_le {n : Nat} (h : n ≤ 255) : (byte n).toNat = n := by
  rw [toNat_byte]
  omega

section
variable (f : Frame)

/-- What stands before the FCS. -/
def Frame.body : List Byte := f.header ++ f.payload

theorem Frame.length_body : f.body.length = f.payload.length + 6 := by
  simp [Frame.body, Frame.header]

theorem Frame.bytes_eq : f.bytes = f.body ++ [f.fcs.extractLsb' 8 8, f.fcs.extractLsb' 0 8] := rfl

theorem Frame.length_bytes : f.bytes.length = f.payload.length + 8 := by
  simp [Frame.bytes_eq, Frame.length_body]

/-- The last two bytes of a frame are its FCS. -/
theorem Frame.fcs_bytes :
    byteAt f.bytes (f.bytes.length - 2) ++ byteAt f.bytes (f.bytes.length - 1) = f.fcs := by
  have high : byteAt f.bytes f.body.length = f.fcs.extractLsb' 8 8 := by simp [byteAt, Frame.bytes_eq]
  have low : byteAt f.bytes (f.body.length + 1) = f.fcs.extractLsb' 0 8 := by simp [byteAt, Frame.bytes_eq]
  have ends : f.bytes.length - 2 = f.body.length ∧ f.bytes.length - 1 = f.body.length + 1 := by
    simp [Frame.bytes_eq]
  rw [ends.1, ends.2, high, low, join_fcs_bytes]

/-- Before them stand header and payload. -/
theorem Frame.take_bytes : f.bytes.take (f.bytes.length - 2) = f.body := by
  simp [Frame.bytes_eq]

theorem Frame.payload_bytes : (f.bytes.drop 6).take f.payload.length = f.payload := by
  simp [Frame.bytes, Frame.header]

/-- The LEN that the bytes of a frame declare, for a payload that fits in a frame. -/
theorem Frame.declaredLen_bytes (h : f.payload.length ≤ 60) : declaredLen f.bytes = f.payload.length :=
  toNat_byte_of_le (by omega)

/-- The bytes of a frame pass the receive check when the payload is short enough, the source is a station's, and the FCS
is that of header and payload (R6). -/
theorem Frame.receiveFails_bytes (hlen : f.payload.length ≤ 60) (hsrc : f.src ≠ 127) (hfcs : f.fcs = f.sum) :
    receiveFails f.bytes = false := by
  have declared := f.declaredLen_bytes hlen
  have kind : (byteAt f.bytes 2).extractLsb' 5 3 = f.kind.code := (unpack_kindByte _ _ _).1
  have src : (byteAt f.bytes 1).extractLsb' 1 7 = f.src := BitVec.extractLsb'_append_eq_left
  have sum : crc16 f.body = f.fcs := hfcs.symm
  simp only [receiveFails, declared, kind, src, Frame.fcs_bytes, Frame.take_bytes, sum, Kind.ofCode_code, hsrc]
  simp [hlen, Frame.length_bytes]

/-- Such a frame is read back as it was (R173). -/
theorem Frame.parse_bytes (hlen : f.payload.length ≤ 60) (hsrc : f.src ≠ 127) (hfcs : f.fcs = f.sum) :
    Frame.parse f.bytes = some f := by
  have kind : (byteAt f.bytes 2).extractLsb' 5 3 = f.kind.code := (unpack_kindByte _ _ _).1
  have dst : (byteAt f.bytes 0).extractLsb' 1 7 = f.dst := BitVec.extractLsb'_append_eq_left
  have src : (byteAt f.bytes 1).extractLsb' 1 7 = f.src := BitVec.extractLsb'_append_eq_left
  have cut : (byteAt f.bytes 0).getLsbD 0 = f.cut := getLsbD_zero_append_ofBool _ _
  have spareSrc : (byteAt f.bytes 1).getLsbD 0 = f.spareSrc := getLsbD_zero_append_ofBool _ _
  have spareKind : (byteAt f.bytes 2).getLsbD 0 = f.spareKind := getLsbD_zero_append_ofBool _ _
  have ch : (byteAt f.bytes 2).extractLsb' 1 4 = f.ch := (unpack_kindByte _ _ _).2
  have seq : byteAt f.bytes 3 = f.seq := rfl
  have spareHop : (byteAt f.bytes 4).extractLsb' 4 4 = f.spareHop := BitVec.extractLsb'_append_eq_left
  have hop : (byteAt f.bytes 4).extractLsb' 0 4 = f.hop := BitVec.extractLsb'_append_eq_right
  rw [Frame.parse, f.receiveFails_bytes hlen hsrc hfcs, kind, Kind.ofCode_code]
  simp only [Bool.false_eq_true, if_false, dst, src, cut, spareSrc, spareKind, ch, seq, spareHop, hop,
    f.declaredLen_bytes hlen, Frame.payload_bytes, Frame.fcs_bytes]

end

/-! ## Codes of values (R175, R176) -/

@[simp] theorem portOfByte_portByte (p : Port) : portOfByte (portByte p) = some p := by
  cases p <;> rfl

@[simp] theorem SeqPolicy.ofByte_code (x : SeqPolicy) : SeqPolicy.ofByte x.code = some x := by
  cases x <;> rfl

@[simp] theorem EarlyAction.ofByte_code (x : EarlyAction) : EarlyAction.ofByte x.code = some x := by
  cases x <;> rfl

@[simp] theorem MissPolicy.ofByte_code (x : MissPolicy) : MissPolicy.ofByte x.code = some x := by
  cases x <;> rfl

@[simp] theorem SenseState.ofByte_code (x : SenseState) : SenseState.ofByte x.code = some x := by
  cases x <;> rfl

@[simp] theorem boolOfByte_boolByte (x : Bool) : boolOfByte (boolByte x) = some x := by
  cases x <;> rfl

@[simp] theorem gateOfByte_gateByte (x : Option (Fin 4)) : gateOfByte (gateByte x) = some x := by
  revert x
  decide

/-- A number in two bytes, read again. -/
theorem nat16_be16 {n : Nat} (h : n ≤ 65535) : nat16 (byte (n / 256)) (byte n) = n := by
  simp only [nat16, toNat_byte]
  omega

/-! ## Flow definitions -/

theorem FlowDef.length_bytes (d : FlowDef) : d.bytes.length = 23 := rfl

/-- The bytes of a legal definition give it back (R35, R176). -/
theorem FlowDef.ofBytes_bytes {d : FlowDef} (h : d.legal = true) : FlowDef.ofBytes d.bytes = some d := by
  have ranges := h
  simp only [FlowDef.legal, Bool.and_eq_true, decide_eq_true_eq] at ranges
  have period : nat16 (byte (d.period / 256)) (byte d.period) = d.period := nat16_be16 (by omega)
  have early : nat16 (byte (d.early / 256)) (byte d.early) = d.early := nat16_be16 (by omega)
  have late : nat16 (byte (d.late / 256)) (byte d.late) = d.late := nat16_be16 (by omega)
  have lenMin : (byte d.lenMin).toNat = d.lenMin := toNat_byte_of_le (by omega)
  have lenMax : (byte d.lenMax).toNat = d.lenMax := toNat_byte_of_le (by omega)
  have gap : (byte d.gap).toNat = d.gap := toNat_byte_of_le (by omega)
  have subLimit : (byte d.subLimit).toNat = d.subLimit := toNat_byte_of_le (by omega)
  have lossThreshold : (byte d.lossThreshold).toNat = d.lossThreshold := toNat_byte_of_le (by omega)
  have recovery : (byte d.recovery).toNat = d.recovery := toNat_byte_of_le (by omega)
  have fits : (d.src.setWidth 8).toNat ≤ 127 ∧ (d.dst.setWidth 8).toNat ≤ 127 ∧ (d.ch.setWidth 8).toNat ≤ 15
      ∧ (d.egress.setWidth 8).toNat ≤ 7 := by
    simp only [BitVec.toNat_setWidth]
    omega
  have narrowed : (d.src.setWidth 8).setWidth 7 = d.src ∧ (d.dst.setWidth 8).setWidth 7 = d.dst
      ∧ (d.ch.setWidth 8).setWidth 4 = d.ch ∧ (d.egress.setWidth 8).setWidth 3 = d.egress := by
    simp
  obtain ⟨fitSrc, fitDst, fitCh, fitEgress⟩ := fits
  obtain ⟨src, dst, ch, egress⟩ := narrowed
  simp only [FlowDef.bytes, be16, List.cons_append, List.nil_append, FlowDef.ofBytes, portOfByte_portByte,
    SeqPolicy.ofByte_code, EarlyAction.ofByte_code, MissPolicy.ofByte_code, gateOfByte_gateByte, SenseState.ofByte_code,
    boolOfByte_boolByte, Option.bind_eq_bind, Option.bind_some, period, early, late, lenMin, lenMax, gap, subLimit,
    lossThreshold, recovery, src, dst, ch, egress]
  exact if_pos ⟨fitSrc, fitDst, fitCh, fitEgress, h⟩

end Sys2Proof.Machine

/-! ## The statements -/

namespace Sys2Proof.Proofs

open Sys2Proof Sys2Proof.Machine

/-- Settles O14: a sealed frame carries the FCS of its header and payload, so its bytes pass the check and read back. -/
theorem frameReadsBack : Obligations.FrameReadsBack := fun f hlen hsrc =>
  ⟨f.sealed.parse_bytes hlen hsrc rfl, f.sealed.length_bytes⟩

/-- Settles O15: each byte is read by the inverse of the code that wrote it, within the ranges a legal definition keeps. -/
theorem definitionReadsBack : Obligations.DefinitionReadsBack := fun d hd =>
  ⟨FlowDef.ofBytes_bytes hd, d.length_bytes⟩

end Sys2Proof.Proofs
end

section
/-! SUPPORT. Arrivals (R6, R16 to R24): the receive check, each stage of an arrival, the admission of a request, and the
statements. -/
namespace Sys2Proof.Machine

variable {s : State} {p : Port} {bytes : List Byte} {x : Frame}

/-! ## The receive check (R6) -/

theorem Kind.ofCode_eq_none {c : BitVec 3} (h : 6 ≤ c.toNat) : Kind.ofCode c = none := by
  have ne {d : BitVec 3} (hd : d.toNat < 6) : c ≠ d := by
    rintro rfl
    omega
  simp [Kind.ofCode, ne]

/-- The reasons of R6, in numbers, for which a reception fails the check. -/
theorem receiveFails_of (h : bytes.length < 8 ∨ bytes.length ≠ (byteAt bytes 5).toNat + 8 ∨ 60 < (byteAt bytes 5).toNat
      ∨ 6 ≤ (byteAt bytes 2).toNat / 32 ∨ (byteAt bytes 1).toNat / 2 = 127
      ∨ crc16 (bytes.take (bytes.length - 2))
          ≠ byteAt bytes (bytes.length - 2) ++ byteAt bytes (bytes.length - 1)) : receiveFails bytes = true := by
  have kind (h : 6 ≤ (byteAt bytes 2).toNat / 32) : Kind.ofCode ((byteAt bytes 2).extractLsb' 5 3) = none := by
    refine Kind.ofCode_eq_none ?_
    rw [BitVec.extractLsb'_toNat, Nat.shiftRight_eq_div_pow]
    omega
  have src (h : (byteAt bytes 1).toNat / 2 = 127) : (byteAt bytes 1).extractLsb' 1 7 = 127 := by
    apply BitVec.eq_of_toNat_eq
    rw [BitVec.extractLsb'_toNat, Nat.shiftRight_eq_div_pow, Nat.pow_one, h]
    rfl
  unfold receiveFails declaredLen
  rcases h with h | h | h | h | h | h
  · simp [h]
  · simp [h]
  · simp [h]
  · simp [kind h]
  · simp [src h]
  · simp [h]

theorem Frame.parse_eq_none (h : receiveFails bytes = true) : Frame.parse bytes = none := if_pos h

/-! ## The start of an arrival (R10, R16, R17) -/

theorem exec_arrival (hs : s.resetAsserted = false) (hl : (s.port p).line = .online) :
    exec (.arrival p bytes) s = .next ((s.endReception p).handle p bytes).settle := by
  have arrival : exec (.arrival p bytes) s = .next (s.arrive p bytes).settle := exec_of_free rfl hs
  rw [arrival, State.arrive, hl]

/-- The end of a reception is seen at its port alone. -/
@[simp] theorem State.admin_endReception (s : State) (p : Port) :
    ((s.endReception p).port p).admin = (s.port p).admin := by
  simp [State.endReception]

theorem State.handle_check (h : receiveFails bytes = true) :
    s.handle p bytes = State.concluded p bytes none .dropCheck none s := by
  rw [State.handle, Frame.parse_eq_none h]
  rfl

section
variable (hx : Frame.parse bytes = some x)
include hx

theorem State.handle_local (h : s.isLocal x = true) : s.handle p bytes = s.localStage p bytes x := by
  simp only [State.handle, hx, h, if_true]

theorem State.handle_discover (hl : s.isLocal x = false) (h : s.offersDiscover p x = true) :
    s.handle p bytes = s.discoverStage p bytes x := by
  simp only [State.handle, hx, hl, h, if_true, Bool.false_eq_true, if_false]

theorem State.handle_screen (hl : s.isLocal x = false) (h : s.offersDiscover p x = false) :
    s.handle p bytes = State.conclude p bytes (some x) (s.screen p x) := by
  simp only [State.handle, hx, hl, h, Bool.false_eq_true, if_false]

end

/-! ## Screening (R20) -/

theorem State.screen_loop (ha : s.addressed = true) (h : x.src = s.station) :
    s.screen p x = ⟨.dropLoop, none, s.raiseEvent .portLoop (portByte p)⟩ := if_pos ⟨ha, h⟩

section
variable (hloop : ¬(s.addressed = true ∧ x.src = s.station))
include hloop

theorem State.screen_blocked (h : (s.port p).admin = .blocked) : s.screen p x = ⟨.dropBlocked, none, s⟩ := by
  rw [State.screen, if_neg hloop, if_pos h]

section
variable (ha : (s.port p).admin = .enabled)
include ha

theorem State.screen_hop (h : x.hop = 0) : s.screen p x = ⟨.dropHop, none, s⟩ := by
  rw [State.screen, if_neg hloop, if_neg (by simp [ha]), if_pos h]

theorem State.screen_flowStage (h : x.hop ≠ 0) : s.screen p x = s.flowStage p x := by
  rw [State.screen, if_neg hloop, if_neg (by simp [ha]), if_neg h]

end
end

/-- The loop stage lets a frame through in unaddressed operation and from every other source. -/
theorem State.not_loop (h : s.addressed = false ∨ x.src ≠ s.station) : ¬(s.addressed = true ∧ x.src = s.station) := by
  rintro ⟨ha, hx⟩
  rcases h with h | h
  · rw [ha] at h
    exact absurd h (by decide)
  · exact h hx

/-! ## The admission of a request (R18, R160) -/

/-- What the entry found in the cache carries. -/
theorem cacheHit_fields {r : Request} {cache : List CacheEntry} {e : CacheEntry} (h : cacheHit r cache = some e) :
    e.requester = r.requester ∧ e.tag = r.tag ∧ e.code = r.code :=
  by simpa using List.find?_some h

theorem State.admission_cached {r : Request} {report : Bool} {e : CacheEntry} (h : cacheHit r s.agent.cache = some e) :
    s.admission r report = (.local, s.resend r e) := by
  simp only [State.admission, h]

section
variable {r : Request} (hc : cacheHit r s.agent.cache = none) (report : Bool)
include hc

theorem State.admission_inFlight (h : s.inFlight r = true) : s.admission r report = (.dropMgmt, s) := by
  simp only [State.admission, hc, h, if_true]

theorem State.admission_queued (h : s.inFlight r = false) (hq : s.agent.queue.length < 4) :
    s.admission r report = (.local, s.setAgent { s.agent with queue := s.agent.queue ++ [r] }) := by
  simp only [State.admission, hc, h, Bool.false_eq_true, if_false]
  exact if_pos hq

theorem State.admission_full (h : s.inFlight r = false) (hq : 4 ≤ s.agent.queue.length) :
    s.admission r report
      = (.dropMgmt, if report then s.raiseEvent .mgmtRequestDropped (r.requester.setWidth 8) else s) := by
  simp only [State.admission, hc, h, Bool.false_eq_true, if_false]
  exact if_neg (Nat.not_lt.mpr hq)

end

section
variable (s) (r : Request) (report : Bool)

@[simp] theorem State.reporter_admission : (s.admission r report).2.reporter = s.reporter := by
  obtain ⟨q, c, ys, h⟩ := s.admission_frame r report
  rw [h]

@[simp] theorem State.params_admission : (s.admission r report).2.params = s.params := by
  obtain ⟨q, c, ys, h⟩ := s.admission_frame r report
  rw [h]
  rfl

@[simp] theorem State.service_admission : (s.admission r report).2.agent.service = s.agent.service := by
  obtain ⟨q, c, ys, h⟩ := s.admission_frame r report
  rw [h]

@[simp] theorem State.addressed_admission : (s.admission r report).2.addressed = s.addressed := by
  obtain ⟨q, c, ys, h⟩ := s.admission_frame r report
  rw [h]
  rfl

@[simp] theorem State.station_admission : (s.admission r report).2.station = s.station := by
  obtain ⟨q, c, ys, h⟩ := s.admission_frame r report
  rw [h]

@[simp] theorem State.port_admission (p : Port) : (s.admission r report).2.port p = s.port p := by
  obtain ⟨q, c, ys, h⟩ := s.admission_frame r report
  rw [h]
  rfl

end

/-- What follows an admission in its arrival: the end of a stall and the take of an IDLE agent are raised (log 13). -/
theorem State.afterRequest_concluded (a : Address) (x : Option Frame) (v : Verdict) (flow : Option (Fin 64)) (t : State) :
    (State.concluded p bytes x v flow t).afterRequest a = { State.concluded p bytes x v flow t with
      raised := (State.concluded p bytes x v flow t).raised
        ++ (if t.reporter.state = .stalled ∧ t.params.reportAddr = some a then [.stallExit a] else [])
        ++ (if t.agent.service = .idle ∧ t.agent.queue ≠ [] then [.take] else []) } :=
  State.afterRequest_eq _ a (by simp [State.concluded])

/-! ## Flow lookup (R21 to R23) -/

/-- No entry is found exactly where the frame is unmatched. -/
theorem State.lookup_eq_none_iff : s.lookup x = none ↔ s.unmatched x := by
  simp only [State.lookup, List.findSome?_eq_none_iff, State.unmatched]
  refine forall_congr' fun i => ?_
  simp only [flowIndices, List.mem_finRange, forall_const]
  cases s.flow i with
  | none => simp
  | some f =>
    simp only [Option.some.injEq, forall_eq']
    cases f.carriesKey x <;> simp

theorem State.flowStage_supervised {i : Fin 64} {f : Flow} (hk : x.kind = .cyc) (h : s.lookup x = some (i, f)) :
    s.flowStage p x = ⟨(s.supervise i f p x).1, some i, (s.supervise i f p x).2⟩ := by
  simp only [State.flowStage, hk, h]

theorem State.flowStage_unmatched (hk : x.kind = .cyc) (h : s.unmatched x) (hp : s.params.unmatchedPolicy = .drop) :
    s.flowStage p x = ⟨.dropUnmatched, none, s⟩ := by
  simp only [State.flowStage, hk, State.lookup_eq_none_iff.mpr h, hp]

theorem State.flowStage_sub {i : Fin 64} {f : Flow} (hk : x.kind = .sub) (h : s.lookup x = some (i, f))
    (hi : f.defn.ingress = p) : s.flowStage p x = s.passSub i f x := by
  simp only [State.flowStage, hk, h, hi, if_true]

/-- The frames that come to the route stage (R21 to R24). -/
theorem State.flowStage_routed (h : s.toBeRouted p x) : s.flowStage p x = s.routed p x := by
  obtain ⟨-, hk | hk | hk | hk | ⟨hk, hu, hp⟩ | ⟨hk, hu | ⟨i, f, hf, hi⟩⟩⟩ := h
  · simp only [State.flowStage, hk]
  · simp only [State.flowStage, hk]
  · simp only [State.flowStage, hk]
  · simp only [State.flowStage, hk]
  · simp only [State.flowStage, hk, State.lookup_eq_none_iff.mpr hu, hp]
  · simp only [State.flowStage, hk, State.lookup_eq_none_iff.mpr hu]
  · simp only [State.flowStage, hk, hf, if_neg hi]

/-- The end of the reception changes nothing of this. -/
theorem State.toBeRouted.endReception (h : s.toBeRouted p x) : (s.endReception p).toBeRouted p x := by
  obtain ⟨⟨hlocal, hdisc, hloop, hadmin, hhop⟩, hkind⟩ := h
  exact ⟨⟨hlocal, hdisc, hloop, (s.admin_endReception p).trans hadmin, hhop⟩, hkind⟩

/-! ## Routing (R24) -/

theorem State.routed_broadcast (h : x.dst = 127) :
    s.routed p x = ⟨.forwarded, none, s.forwardTo (otherPorts p) x⟩ := by
  rw [State.routed, State.routeStage, if_pos h]

section
variable (h : x.dst.toNat < 127)
include h

theorem Frame.dst_ne_broadcast : x.dst ≠ 127 := by
  intro hd
  rw [hd] at h
  exact absurd h (by decide)

theorem State.routed_refused (hr : s.routes[x.dst.toNat].portFor p = none ∨ s.routes[x.dst.toNat].portFor p = some p) :
    s.routed p x = ⟨.dropNoroute, none, s⟩ := by
  rw [State.routed, State.routeStage, if_neg (Frame.dst_ne_broadcast h), State.route, dif_pos h]
  rcases hr with hr | hr <;> simp [hr]

theorem State.routed_forwarded {q : Port} (hr : s.routes[x.dst.toNat].portFor p = some q) (hq : q ≠ p) :
    s.routed p x = ⟨.forwarded, none, s.forwardTo (onlyPort q) x⟩ := by
  rw [State.routed, State.routeStage, if_neg (Frame.dst_ne_broadcast h), State.route, dif_pos h]
  simp [hr, hq]

end

/-! ## An arrival that passes the screening -/

/-- Such an arrival ends with the verdict of flow lookup and route. -/
theorem exec_arrival_screened (hs : s.resetAsserted = false) (hl : (s.port p).line = .online)
    (hx : Frame.parse bytes = some x) (h : s.passesScreen p x) :
    exec (.arrival p bytes) s
      = .next (State.conclude p bytes (some x) ((s.endReception p).flowStage p x)).settle := by
  obtain ⟨hlocal, hdisc, hloop, hadmin, hhop⟩ := h
  have screened : (s.endReception p).handle p bytes
      = State.conclude p bytes (some x) ((s.endReception p).screen p x) := State.handle_screen hx hlocal hdisc
  have stage : (s.endReception p).screen p x = (s.endReception p).flowStage p x :=
    State.screen_flowStage hloop (by simpa using hadmin) hhop
  rw [exec_arrival hs hl, screened, stage]

end Sys2Proof.Machine

/-! ## The statements -/

namespace Sys2Proof.Proofs

open Sys2Proof Sys2Proof.Machine

/-- Settles O21: the stages before flow lookup, each with its verdict. -/
theorem checkLocalAndScreeningStages : Obligations.CheckLocalAndScreeningStages := by
  refine ⟨fun p bytes s hs => ⟨fun hl => ?offline, fun hl hf => ?check, fun x hl hx ha hd hc => ?notRequest⟩,
    fun p bytes x s hs hl hx hlocal hdisc => ?_⟩
  case offline =>
    have arrival : exec (.arrival p bytes) s = .next (s.arrive p bytes).settle := exec_of_free rfl hs
    rw [arrival, State.arrive, hl]
  case check =>
    rw [exec_arrival hs hl, State.handle_check (receiveFails_of hf)]
    rfl
  case notRequest =>
    have isLocal : (s.endReception p).isLocal x = true := by
      show (s.addressed && decide (x.dst = s.station)) = true
      simp [ha, hd]
    have carriesNone : (s.endReception p).carriesRequest p x = false := by
      show (decide (x.kind = .mgt) && portIn s.params.mgmtPorts p && !x.payload.isEmpty) = false
      simpa [and_assoc] using hc
    rw [exec_arrival hs hl, State.handle_local hx isLocal, State.localStage, carriesNone]
    rfl
  have screened : (s.endReception p).handle p bytes
      = State.conclude p bytes (some x) ((s.endReception p).screen p x) := State.handle_screen hx hlocal hdisc
  have through (h : s.addressed = false ∨ x.src ≠ s.station) :
      ¬((s.endReception p).addressed = true ∧ x.src = (s.endReception p).station) := State.not_loop h
  have admin := s.admin_endReception p
  rw [exec_arrival hs hl, screened]
  refine ⟨fun ha hsrc => ?_, fun hn hb => ?_, fun hn he hh => ?_⟩
  · rw [State.screen_loop (s := s.endReception p) ha hsrc]
    rfl
  · rw [State.screen_blocked (through hn) (admin.trans hb)]
    rfl
  · rw [State.screen_hop (through hn) (admin.trans he) hh]
    rfl

/-- Settles O22: the four outcomes of R18, and the arrival that they end. -/
theorem arrivalOfRequestIsAdmitted : Obligations.ArrivalOfRequestIsAdmitted := by
  refine ⟨fun r report s => ⟨fun e he => ?cached, fun hc => ⟨State.admission_inFlight hc report,
    State.admission_queued hc report, State.admission_full hc report⟩⟩,
    fun p bytes x s hs hl hx ha hd hk hm code rest hpay => ?arrival⟩
  case cached =>
    obtain ⟨hrequester, htag, hcode⟩ := cacheHit_fields he
    refine ⟨hrequester, htag, hcode, ?_⟩
    rw [State.admission_cached he, State.resend]
    simp only [State.offerGenerated, State.raise, List.append_assoc]
    rfl
  case arrival =>
    intro a c
    have isLocal : (s.endReception p).isLocal x = true := by
      show (s.addressed && decide (x.dst = s.station)) = true
      simp [ha, hd]
    have carries : (s.endReception p).carriesRequest p x = true := by
      show (decide (x.kind = .mgt) && portIn s.params.mgmtPorts p && !x.payload.isEmpty) = true
      simp [hk, hm, hpay]
    have request : x.request p = ⟨x.src, x.seq, p, code, rest⟩ := by
      rw [Frame.request, hpay]
      rfl
    rw [exec_arrival hs hl, State.handle_local hx isLocal, State.localStage, carries, request, if_pos rfl]
    have after := State.afterRequest_concluded (p := p) (bytes := bytes) x.src (some x) a.1 none a.2
    have reporter : a.2.reporter = s.reporter := State.reporter_admission _ _ _
    have params : a.2.params = s.params := State.params_admission _ _ _
    have service : a.2.agent.service = s.agent.service := State.service_admission _ _ _
    rw [reporter, params, service] at after
    exact congrArg (fun t : State => Host.Outcome.next t.settle) after

/-- Settles O23: the admission without a report, then the stages of every broadcast. -/
theorem broadcastDiscover : Obligations.BroadcastDiscover := by
  intro p bytes x s hs hl hx ha hd hk hm hhead t ended
  have station : s.station ≠ 127 := of_decide_eq_true ha
  have isLocal : (s.endReception p).isLocal x = false := by
    show (s.addressed && decide (x.dst = s.station)) = false
    simpa [hd] using fun _ : s.addressed = true => Ne.symm station
  obtain ⟨rest, hpay⟩ : ∃ rest, x.payload = 0x01 :: rest := by
    cases hp : x.payload with
    | nil => simp [hp] at hhead
    | cons a rest => exact ⟨rest, by simpa [hp] using hhead⟩
  have offered : (s.endReception p).offersDiscover p x = true := by
    show (s.addressed && decide (x.dst = 127)
      && (decide (x.kind = .mgt) && portIn s.params.mgmtPorts p && !x.payload.isEmpty)
      && decide (x.payload.head? = some 0x01)) = true
    simp [ha, hd, hk, hm, hpay]
  have request : x.request p = ⟨x.src, x.seq, p, 0x01, x.payload.tail⟩ := by
    rw [Frame.request, hpay]
    rfl
  have stage : exec (.arrival p bytes) s
      = .next ((State.conclude p bytes (some x) (t.screen p x)).afterRequest x.src).settle := by
    rw [exec_arrival hs hl, State.handle_discover hx isLocal offered, State.discoverStage, request]
  have tAddressed : t.addressed = true := (State.addressed_admission _ _ _).trans ha
  have tStation : t.station = s.station := State.station_admission _ _ _
  have tAdmin : (t.port p).admin = (s.port p).admin := by
    rw [show t.port p = (s.endReception p).port p from State.port_admission _ _ _ p, State.admin_endReception]
  have reporter : t.reporter = s.reporter := State.reporter_admission _ _ _
  have params : t.params = s.params := State.params_admission _ _ _
  have service : t.agent.service = s.agent.service := State.service_admission _ _ _
  have ends {v : Verdict} {u : State} (hscreen : t.screen p x = ⟨v, none, u⟩) (hr : u.reporter = t.reporter)
      (hag : u.agent = t.agent) : exec (.arrival p bytes) s = .next (ended v u) := by
    have after := State.afterRequest_concluded (p := p) (bytes := bytes) x.src (some x) v none u
    have params' : u.params = s.params := by rw [State.params, hag]; exact params
    rw [hr, reporter, params', hag, service] at after
    rw [stage, hscreen]
    exact congrArg (fun t : State => Host.Outcome.next t.settle) after
  have through (h : x.src ≠ s.station) : ¬(t.addressed = true ∧ x.src = t.station) := fun hh => h (hh.2.trans tStation)
  refine ⟨fun h => ?_, fun h hb => ?_, fun h he hh => ?_, fun h he hh => ?_⟩
  · exact ends (State.screen_loop tAddressed (h.trans tStation.symm)) rfl rfl
  · exact ends (State.screen_blocked (through h) (tAdmin.trans hb)) rfl rfl
  · exact ends (State.screen_hop (through h) (tAdmin.trans he) hh) rfl rfl
  · have routed : t.screen p x = ⟨.forwarded, none, t.forwardTo (otherPorts p) x⟩ := by
      rw [State.screen_flowStage (through h) (tAdmin.trans he) hh, ← State.routed_broadcast hd]
      simp only [State.flowStage, hk]
    refine ends routed ?_ ?_ <;> rw [State.forwardTo_eq]

/-- Settles O24: the route stage by the target of R24, and the copies it offers. -/
theorem routeStageForwards : Obligations.RouteStageForwards := by
  refine ⟨fun p bytes x s hs hl hx h => ?_, fun set x e s => ⟨rfl, rfl, ?_⟩⟩
  · rw [exec_arrival_screened hs hl hx h.1, State.flowStage_routed h.endReception]
    refine ⟨fun hd => ?_, fun hd => ?_⟩
    · rw [State.routed_broadcast hd]
      rfl
    · intro target yields
      have yields_eq : yields = target.portFor p := by
        cases ht : target <;> cases p <;> simp [yields, ht, Target.portFor]
      rw [yields_eq]
      refine ⟨fun hr => ?_, fun q hr hq => ?_⟩
      · rw [State.routed_refused (s := s.endReception p) hd hr]
        rfl
      · rw [State.routed_forwarded (s := s.endReception p) hd hr hq]
        rfl
  · rw [State.offerAll_eq]
    simp only [offersTo, List.append_assoc]

/-- Settles O25: what flow lookup finds, and what supervision makes of the entry it found. -/
theorem flowLookupAndSupervision : Obligations.FlowLookupAndSupervision := by
  refine ⟨fun p bytes x s hs hl hx h => ?_, fun i f p x s => ?_⟩
  · rw [exec_arrival_screened hs hl hx h]
    refine ⟨fun i f hk hf => ?_, fun hk hu hp => ?_, fun i f hk hf hi => ?_⟩
    · have found : (s.endReception p).lookup x = some (i, f) := hf
      rw [State.flowStage_supervised hk found]
      rfl
    · have unmatched : (s.endReception p).unmatched x := hu
      rw [State.flowStage_unmatched hk unmatched hp]
      rfl
    · have found : (s.endReception p).lookup x = some (i, f) := hf
      rw [State.flowStage_sub hk found hi]
      rfl
  · intro gateOpen r t
    rw [State.supervise, State.raiseFlows_eq]
    rfl

end Sys2Proof.Proofs
end

section
/-! SUPPORT. Cyclic supervision (chapter 4): what an arriving CYC frame and a deadline expiry make of an entry, outcome by
outcome, and the statements. -/
namespace Sys2Proof.Machine

/-! ## The sequence step (R62) -/

section
variable {d a : Nat}

theorem seqFinding_zero (a : Nat) : seqFinding 0 a = .duplicate := rfl

theorem seqFinding_passes (h1 : 1 ≤ d) (ha : d ≤ a + 1) (h : d ≤ 127) : seqFinding d a = .passes (d - 1) := by
  rw [seqFinding, if_neg (by omega), if_neg (by omega), if_pos ha]

theorem seqFinding_breaks (ha : a + 2 ≤ d) (h : d ≤ 127) : seqFinding d a = .breaks := by
  rw [seqFinding, if_neg (by omega), if_neg (by omega), if_neg (by omega)]

theorem seqFinding_stale (h : 128 ≤ d) : seqFinding d a = .stale := by
  rw [seqFinding, if_neg (by omega), if_pos h]

end

section
variable {f : Flow} {t : Time} {gateOpen : Bool} {p : Port} {x : Frame}

theorem Flow.sequence_checked {last : Byte} (hp : f.defn.seqPolicy = .check) (hl : f.lastSeq = some last) (seq : Byte) :
    f.sequence seq = seqFinding (seq - last).toNat f.defn.gap := by
  simp only [Flow.sequence, hp, hl]

theorem Flow.sequence_unchecked (h : f.defn.seqPolicy = .unchecked ∨ f.lastSeq = none) (seq : Byte) :
    f.sequence seq = .passes 0 := by
  unfold Flow.sequence
  split
  · next hp hl => rcases h with h | h <;> simp_all
  · rfl

/-- Step 3, in the states that have a schedule (R61). -/
theorem Flow.isEarly_iff : f.isEarly t = true ↔ (f.state = .locked ∨ f.state = .overdue ∨ f.state = .recovering)
    ∧ ∃ e, f.schedule = some e ∧ before t (e.expected - BitVec.ofNat 32 (f.defn.early * 10)) = true := by
  unfold Flow.isEarly ticks
  cases f.state <;> cases f.schedule <;> simp

/-! ## The outcomes of an arrival (R58 to R62) -/

/-- The entry with an early arrival counted (R61). -/
def Flow.earlyCounted (f : Flow) : Flow := { f with counters := { f.counters with early := f.counters.early + 1 } }

theorem Flow.onArrival_wrongPort (h : p ≠ f.defn.ingress) :
    f.onArrival t gateOpen p x = ⟨{ f with counters := { f.counters with wrongPort := f.counters.wrongPort + 1 } },
      [.flowWrongPort], .dropWrongPort⟩ := if_pos h

section
variable (hp : p = f.defn.ingress)
include hp

theorem Flow.onArrival_length (h : x.payload.length < f.defn.lenMin ∨ f.defn.lenMax < x.payload.length) :
    f.onArrival t gateOpen p x
      = ⟨{ f with counters := { f.counters with lengthFaults := f.counters.lengthFaults + 1 } },
        [.flowLength], .dropLength⟩ := by
  rw [Flow.onArrival, if_neg (not_not.mpr hp), if_pos h]

section
variable (hmin : f.defn.lenMin ≤ x.payload.length) (hmax : x.payload.length ≤ f.defn.lenMax)
include hmin hmax

theorem Flow.onArrival_onTime (h : ¬f.isEarly t = true) :
    f.onArrival t gateOpen p x = f.fromSequence t gateOpen x [] := by
  rw [Flow.onArrival, if_neg (not_not.mpr hp), if_neg (by omega), if_neg h]

theorem Flow.onArrival_earlyDrop (h : f.isEarly t = true) (ha : f.defn.earlyAction = .drop) :
    f.onArrival t gateOpen p x
      = ⟨{ f with counters := { f.counters with early := f.counters.early + 1 } }, [.flowEarly], .dropEarly⟩ := by
  rw [Flow.onArrival, if_neg (not_not.mpr hp), if_neg (by omega), if_pos h]
  simp only [ha]

theorem Flow.onArrival_earlyPass (h : f.isEarly t = true) (ha : f.defn.earlyAction = .pass) :
    f.onArrival t gateOpen p x = f.earlyCounted.fromSequence t gateOpen x [.flowEarly] := by
  rw [Flow.onArrival, if_neg (not_not.mpr hp), if_neg (by omega), if_pos h]
  simp only [ha]
  rfl

end
end

section
variable {last : Byte} (hp : f.defn.seqPolicy = .check) (hl : f.lastSeq = some last) (causes : List Cause)
include hp hl

theorem Flow.fromSequence_duplicate (h : x.seq = last) :
    f.fromSequence t gateOpen x causes
      = ⟨{ f with counters := { f.counters with duplicate := f.counters.duplicate + 1 } }, causes, .dropDup⟩ := by
  have same : (x.seq - last).toNat = 0 := by rw [h, BitVec.sub_self]; rfl
  simp only [Flow.fromSequence, Flow.sequence_checked hp hl, same, seqFinding_zero]

theorem Flow.fromSequence_stale (h : 128 ≤ (x.seq - last).toNat) :
    f.fromSequence t gateOpen x causes
      = ⟨{ f with counters := { f.counters with stale := f.counters.stale + 1 } }, causes, .dropStale⟩ := by
  simp only [Flow.fromSequence, Flow.sequence_checked hp hl, seqFinding_stale h]

end

/-! ## Acceptance (R62 to R65) -/

/-- The sequence step lets the frame pass: `skipped` numbers are missing within the allowance, or the sequence breaks. -/
def Flow.passesSequence (f : Flow) (x : Frame) (skipped breaks : Nat) : Prop :=
  (f.defn.seqPolicy = .unchecked ∨ f.lastSeq = none → skipped = 0 ∧ breaks = 0)
  ∧ (∀ last, f.defn.seqPolicy = .check → f.lastSeq = some last →
      let d := (x.seq - last).toNat
      1 ≤ d ∧ d ≤ 127 ∧ skipped = (if d ≤ f.defn.gap + 1 then d - 1 else 0)
      ∧ breaks = (if d ≤ f.defn.gap + 1 then 0 else 1))

/-- The entry with what the steps before the acceptance count. -/
def Flow.counted (f : Flow) (early skipped breaks : Nat) : Flow :=
  { f with counters := { f.counters with
      early := f.counters.early + BitVec.ofNat 32 early
      skipped := f.counters.skipped + BitVec.ofNat 32 skipped
      breaks := f.counters.breaks + BitVec.ofNat 32 breaks } }

/-- A frame that the sequence step lets pass is accepted, with FLOW/SEQ_BREAK where the sequence breaks. -/
theorem Flow.fromSequence_accepts {skipped breaks : Nat} (h : f.passesSequence x skipped breaks) (causes : List Cause) :
    f.fromSequence t gateOpen x causes
      = Flow.acceptAndGate t gateOpen x (causes ++ if breaks = 1 then [.flowSeqBreak] else [])
          (f.counted 0 skipped breaks) := by
  have ⟨unchecked, checked⟩ := h
  have passes {n : Nat} (hs : f.sequence x.seq = .passes n) (hn : skipped = n) (hb : breaks = 0) :
      f.fromSequence t gateOpen x causes
        = Flow.acceptAndGate t gateOpen x (causes ++ if breaks = 1 then [.flowSeqBreak] else [])
            (f.counted 0 skipped breaks) := by
    subst hn hb
    simp [Flow.fromSequence, hs, Flow.counted]
  cases hp : f.defn.seqPolicy with
  | unchecked =>
    obtain ⟨hn, hb⟩ := unchecked (.inl hp)
    exact passes (Flow.sequence_unchecked (.inl hp) _) hn hb
  | check =>
    cases hl : f.lastSeq with
    | none =>
      obtain ⟨hn, hb⟩ := unchecked (.inr hl)
      exact passes (Flow.sequence_unchecked (.inr hl) _) hn hb
    | some last =>
      obtain ⟨h1, h127, hn, hb⟩ := checked last hp hl
      by_cases hgap : (x.seq - last).toNat ≤ f.defn.gap + 1
      · rw [if_pos hgap] at hn hb
        exact passes ((Flow.sequence_checked hp hl _).trans (seqFinding_passes h1 hgap h127)) hn hb
      · rw [if_neg hgap] at hn hb
        have breaks_eq := (Flow.sequence_checked hp hl x.seq).trans (seqFinding_breaks (by omega) h127)
        subst hn hb
        simp [Flow.fromSequence, breaks_eq, Flow.counted]

/-- A frame that passes every step is accepted, with FLOW/EARLY where it is early. -/
theorem Flow.onArrival_accepts {skipped breaks : Nat} (hp : p = f.defn.ingress)
    (hmin : f.defn.lenMin ≤ x.payload.length) (hmax : x.payload.length ≤ f.defn.lenMax)
    (hearly : f.isEarly t = true → f.defn.earlyAction = .pass) (h : f.passesSequence x skipped breaks) :
    f.onArrival t gateOpen p x
      = Flow.acceptAndGate t gateOpen x ((if f.isEarly t = true then [.flowEarly] else [])
          ++ if breaks = 1 then [.flowSeqBreak] else [])
          (f.counted (if f.isEarly t then 1 else 0) skipped breaks) := by
  by_cases he : f.isEarly t = true
  · have h' : f.earlyCounted.passesSequence x skipped breaks := h
    rw [Flow.onArrival_earlyPass hp hmin hmax he (hearly he), Flow.fromSequence_accepts h' [.flowEarly], he]
    simp [Flow.counted, Flow.earlyCounted]
  · rw [Flow.onArrival_onTime hp hmin hmax he, Flow.fromSequence_accepts h []]
    simp [he]

/-- The state effect of an acceptance (R64): probation ends when the good count reaches RECOVERY. -/
theorem Flow.acceptState_eq (f : Flow) :
    let probation := f.state = .lost ∨ f.state = .recovering
    let good := if f.state = .recovering then f.good + 1 else 1
    let recovered := probation ∧ f.defn.recovery ≤ good
    f.acceptState = (if probation ∧ ¬recovered then .recovering else .locked,
      if probation ∧ ¬recovered then good else 0, decide (f.state = .overdue), decide recovered) := by
  unfold Flow.acceptState
  cases hs : f.state
  case lost => by_cases h : f.defn.recovery ≤ 1 <;> simp [h]
  case recovering => by_cases h : f.defn.recovery ≤ f.good + 1 <;> simp [h]
  all_goals simp

/-- Steps 5 and 6, field by field (R63 to R65). -/
theorem Flow.acceptAndGate_eq {st : FlowState} {good : Nat} {late recovered : Bool}
    (h : f.acceptState = (st, good, late, recovered)) (causes : List Cause) :
    Flow.acceptAndGate t gateOpen x causes f
      = { flow := { f with
            state := st, good := good, misses := 0, subs := 0, lastSeq := some x.seq
            holdContent := if f.holdSlot.isSome then some x.payload else f.holdContent
            schedule := some (f.defn.schedule (t + ticks f.defn.period))
            counters := { f.counters with
              accepted := f.counters.accepted + 1
              late := f.counters.late + (if late then 1 else 0)
              forwarded := f.counters.forwarded + (if gateOpen then 1 else 0)
              gated := f.counters.gated + (if gateOpen then 0 else 1) } }
          causes := causes ++ (if recovered then [.flowRecovered] else [])
          verdict := if gateOpen then .forwarded else .dropGated } := by
  cases gateOpen <;> cases late <;> simp [Flow.acceptAndGate, Flow.gateCount, Flow.accept, Flow.recovers, h]

end

/-! ## Deadline expiry (R67 to R76) -/

section
variable {f : Flow} {gateOpen : Bool} {hop : BitVec 4} {x : Schedule}

/-- The entry with the miss counted (R67). -/
def Flow.missed (f : Flow) : Flow := { f with counters := { f.counters with missed := f.counters.missed + 1 } }

theorem Flow.onExpiry_miss (hs : f.state = .locked ∨ f.state = .overdue) (hx : f.schedule = some x) :
    f.onExpiry gateOpen hop = some (f.missed.miss gateOpen hop x.expected) := by
  cases f
  rcases hs with hs | hs <;> cases hs <;> cases hx <;> rfl

theorem Flow.onExpiry_recovering (hs : f.state = .recovering) (hx : f.schedule = some x) :
    f.onExpiry gateOpen hop = some (Flow.lose hop { f.missed with misses := f.defn.lossThreshold }) := by
  cases f
  cases hs
  cases hx
  rfl

/-- The entry after a miss that leaves it OVERDUE (R68). -/
def Flow.overdueFrom (f : Flow) (e : Time) : Flow :=
  { f with
    state := .overdue
    misses := f.misses + 1
    schedule := some (f.defn.schedule (e + ticks f.defn.period)) }

/-- FLOW/OVERDUE is raised on entry to OVERDUE alone (R68). -/
def Flow.overdueCause (f : Flow) : Option Cause := if f.state = .locked then some .flowOverdue else none

section
variable (h : f.misses + 1 < f.defn.lossThreshold) (e : Time)
include h

theorem Flow.miss_substituted {content : List Byte}
    (hc : (f.overdueFrom e).toSubstitute gateOpen = some content) :
    f.miss gateOpen hop e
      = ⟨{ f.overdueFrom e with
          subs := f.subs + 1
          counters := { f.counters with substituted := f.counters.substituted + 1 } },
        f.overdueCause, some ((f.overdueFrom e).substitute hop content)⟩ := by
  rw [Flow.miss, if_pos h]
  unfold Flow.overdueFrom at hc
  simp only [hc]
  rfl

theorem Flow.miss_plain (hc : (f.overdueFrom e).toSubstitute gateOpen = none) :
    f.miss gateOpen hop e = ⟨f.overdueFrom e, f.overdueCause, none⟩ := by
  rw [Flow.miss, if_pos h]
  unfold Flow.overdueFrom at hc
  simp only [hc]
  rfl

end

/-- The miss that reaches the loss threshold (R69). -/
theorem Flow.miss_loses (h : f.defn.lossThreshold ≤ f.misses + 1) (e : Time) :
    f.miss gateOpen hop e = Flow.lose hop { f with misses := f.misses + 1 } := by
  rw [Flow.miss, if_neg (Nat.not_lt.mpr h)]

theorem Flow.toSubstitute_some {content : List Byte} (hp : f.defn.missPolicy ≠ .report) (hl : f.subs < f.defn.subLimit)
    (hc : f.holdContent = some content) : f.toSubstitute true = some content := by
  simp [Flow.toSubstitute, FlowDef.needsHold, hp, hl, hc]

theorem Flow.toSubstitute_none
    (h : f.defn.missPolicy = .report ∨ f.defn.subLimit ≤ f.subs ∨ gateOpen = false ∨ f.holdContent = none) :
    f.toSubstitute gateOpen = none := by
  rcases h with h | h | h | h
  · simp [Flow.toSubstitute, FlowDef.needsHold, h]
  · simp [Flow.toSubstitute, Nat.not_lt.mpr h]
  · simp [Flow.toSubstitute, h]
  · simp [Flow.toSubstitute, h]

/-- The entry after it has entered LOST (R69, R70). -/
def Flow.lost (f : Flow) : Flow := { f with state := .lost, schedule := none, good := 0 }

theorem Flow.lose_plain (h : f.defn.missPolicy ≠ .holdThenCut) : f.lose hop = ⟨f.lost, some .flowLost, none⟩ := by
  unfold Flow.lose
  split
  · next hp => exact absurd hp h
  · rfl
  · rfl

theorem Flow.lose_cut (h : f.defn.missPolicy = .holdThenCut) :
    f.lose hop = ⟨{ f.lost with counters := { f.counters with cuts := f.counters.cuts + 1 } }, some .flowLost,
      some (f.lost.cutFrame hop)⟩ := by
  simp only [Flow.lose, h]
  rfl

/-- An entry in order with a schedule, at a miss that loses it or in RECOVERING, enters LOST with its misses at the loss
threshold (R69, R70). -/
theorem Flow.onExpiry_loses (hok : f.ok) (hx : f.schedule = some x)
    (h : f.state = .recovering ∨ f.defn.lossThreshold ≤ f.misses + 1) :
    f.onExpiry gateOpen hop = some (Flow.lose hop { f.missed with misses := f.defn.lossThreshold }) := by
  obtain ⟨hlegal, hfields, -, -⟩ := hok
  obtain ⟨hthreshold, -⟩ := FlowDef.legal_ranges hlegal
  have atThreshold (hs : f.state = .locked ∨ f.state = .overdue) (hm : f.misses + 1 = f.defn.lossThreshold) :
      f.onExpiry gateOpen hop = some (Flow.lose hop { f.missed with misses := f.defn.lossThreshold }) := by
    rw [Flow.onExpiry_miss hs hx, Flow.miss_loses (f := f.missed) hm.ge, ← hm]
    rfl
  unfold Flow.fieldsOk at hfields
  split at hfields
  · simp [hx] at hfields
  · simp [hx] at hfields
  · next hs =>
    obtain ⟨-, -, hm, -⟩ := hfields
    rcases h with h | h
    · simp [hs] at h
    · exact atThreshold (.inl hs) (by omega)
  · next hs =>
    obtain ⟨-, -, -, hm, -⟩ := hfields
    rcases h with h | h
    · simp [hs] at h
    · exact atThreshold (.inr hs) (by omega)
  · simp [hx] at hfields
  · next hs => exact Flow.onExpiry_recovering hs hx

end

section
variable {s : State} {i : Fin 64} {f : Flow}

@[simp] theorem State.time_offerAll (s : State) (set : BitVec 3) (e : QueueEntry) : (s.offerAll set e).time = s.time := by
  rw [State.offerAll_eq]
  rfl

theorem State.expire_of_schedule_none (hf : s.flow i = some f) (hx : f.schedule = none) : s.expire i = s := by
  simp only [State.expire, hf, hx]

section
variable {x : Schedule} {g : Flow} {c : Option Cause} (hf : s.flow i = some f) (hx : f.schedule = some x)
include hf hx

/-- An expiry that generates no frame writes the entry and raises its event. -/
theorem State.expire_plain (hr : f.onExpiry (s.gateOpen f.defn) s.params.genHop = some ⟨g, c, none⟩) :
    s.expire i = ((s.elapseTo x.deadline).setFlow i (some g)).raiseFlows i f.defn.quiet c.toList := by
  simp only [State.expire, hf, hx, hr]

/-- An expiry that generates a frame offers it as well, and its notice. -/
theorem State.expire_generated {y : Frame}
    (hr : f.onExpiry (s.gateOpen f.defn) s.params.genHop = some ⟨g, c, some y⟩) :
    s.expire i = ((((s.elapseTo x.deadline).setFlow i (some g)).raiseFlows i f.defn.quiet c.toList).offerAll
      f.defn.egress ⟨y, .sub, false⟩).raise
        (.notice ⟨(s.elapseTo x.deadline).time, .gen, some i, .generated, y.header, y.payload.length, y.payload⟩) := by
  simp only [State.expire, hf, hx, hr, State.offerSub, State.offerGenerated, State.time_offerAll]
  rw [State.raiseFlows_eq]
  rfl

end
end

end Sys2Proof.Machine

/-! ## The statements -/

namespace Sys2Proof.Proofs

open Sys2Proof Sys2Proof.Machine

/-- Settles O26: the sequence step, then each step of supervision that drops the frame. -/
theorem supervisionDropsFrame : Obligations.SupervisionDropsFrame := by
  refine ⟨fun d a _ _ => ⟨?zero, ?one, ?within, seqFinding_breaks, seqFinding_stale⟩, fun t gateOpen p x f => ?_⟩
  case zero =>
    rintro rfl
    rfl
  case one =>
    rintro rfl
    exact seqFinding_passes (Nat.le_refl 1) (by omega) (by omega)
  case within => exact fun h2 ha h => seqFinding_passes (by omega) ha h
  intro c fits early
  have early_iff : early ↔ f.isEarly t = true := Flow.isEarly_iff.symm
  simp only [early_iff]
  refine ⟨Flow.onArrival_wrongPort, Flow.onArrival_length, ?_, ?_⟩
  · rintro ⟨hp, hmin, hmax⟩ he ha
    exact Flow.onArrival_earlyDrop hp hmin hmax he ha
  · rintro last ⟨hp, hmin, hmax⟩ hcheck hlast
    refine ⟨fun he hd => ?_, fun he ha hd => ?_, fun he hd => ?_, fun he ha hd => ?_⟩
    · rw [Flow.onArrival_onTime hp hmin hmax he, Flow.fromSequence_duplicate hcheck hlast _ hd]
    · rw [Flow.onArrival_earlyPass hp hmin hmax he ha]
      exact Flow.fromSequence_duplicate (f := f.earlyCounted) hcheck hlast _ hd
    · rw [Flow.onArrival_onTime hp hmin hmax he, Flow.fromSequence_stale hcheck hlast _ hd]
    · rw [Flow.onArrival_earlyPass hp hmin hmax he ha]
      exact Flow.fromSequence_stale (f := f.earlyCounted) hcheck hlast _ hd

/-- Settles O27: the steps before the acceptance come to `Flow.counted` and the causes they raise; then R63 to R65. -/
theorem supervisionAcceptsFrame : Obligations.SupervisionAcceptsFrame := by
  intro t gateOpen p x f hok _ hp hmin hmax hearly skipped breaks unchecked checked r c early probation good recovered
  have accepted : r = _ := Flow.onArrival_accepts hp hmin hmax hearly ⟨unchecked, checked⟩
  have effect : (f.counted (if f.isEarly t then 1 else 0) skipped breaks).acceptState = _ := f.acceptState_eq
  rw [Flow.acceptAndGate_eq effect] at accepted
  have content : (if f.holdSlot.isSome then some x.payload else f.holdContent)
      = if f.holdSlot.isSome then some x.payload else none := by
    obtain ⟨-, -, -, hcontent⟩ := hok
    split
    · rfl
    · next hslot =>
      cases hc : f.holdContent with
      | none => rfl
      | some y => exact absurd (hcontent y hc).1 hslot
  have earlyCauses : (if early = 1 then [Cause.flowEarly] else []) = if f.isEarly t = true then [.flowEarly] else [] := by
    cases he : f.isEarly t <;> simp [early, he]
  rw [accepted]
  refine ⟨rfl, ?causes, rfl, rfl, rfl, content, rfl, rfl, rfl, rfl, rfl, ?counters⟩
  case causes =>
    rw [earlyCauses]
    simp only [decide_eq_true_eq]
    rfl
  case counters =>
    simp only [decide_eq_true_eq]
    rfl

/-- Settles O28: the miss below the loss threshold, with and without a substitute. -/
theorem expiryLeavesOverdue : Obligations.ExpiryLeavesOverdue := by
  intro i f x s hs hf hst hx hm e g u overdue
  have expiry : exec (.deadlineExpiry i) s = .next (s.expire i).settle := exec_of_free rfl hs
  have missed := Flow.onExpiry_miss (gateOpen := s.gateOpen f.defn) (hop := s.params.genHop) hst hx
  have raises (w : State) (hw : w.time = u.time) :
      w.raiseFlows i f.defn.quiet f.overdueCause.toList = { w with raised := w.raised ++ overdue } := by
    rw [State.raiseFlows_eq, hw]
    by_cases hl : f.state = .locked <;> simp [Flow.overdueCause, overdue, hl]
  have raised : u.raised = s.raised := s.raised_elapse _
  rw [expiry]
  refine ⟨fun content hp hlim hgate hc => ?_, fun h => ?_⟩
  · intro h y
    have substitute : (f.missed.overdueFrom x.expected).toSubstitute (s.gateOpen f.defn) = some content := by
      rw [hgate]
      exact Flow.toSubstitute_some hp hlim hc
    rw [Flow.miss_substituted (f := f.missed) hm _ substitute] at missed
    rw [State.expire_generated hf hx missed, ← raised]
    have offered := raises (u.setFlow i (some h)) rfl
    exact congrArg (fun w : State => Host.Outcome.next ((w.offerAll f.defn.egress ⟨y, .sub, false⟩).raise _).settle)
      offered
  · have none_sent : (f.missed.overdueFrom x.expected).toSubstitute (s.gateOpen f.defn) = none :=
      Flow.toSubstitute_none h
    rw [Flow.miss_plain (f := f.missed) hm _ none_sent] at missed
    rw [State.expire_plain hf hx missed, ← raised]
    exact congrArg (fun w : State => Host.Outcome.next w.settle) (raises (u.setFlow i (some g)) rfl)

/-- Settles O29: an entry in order enters LOST with its misses at the loss threshold; without a schedule none is pending. -/
theorem expiryLosesFlow : Obligations.ExpiryLosesFlow := by
  intro i f s hs hf
  have expiry : exec (.deadlineExpiry i) s = .next (s.expire i).settle := exec_of_free rfl hs
  rw [expiry]
  refine ⟨fun x hok hx h => ?_, fun _ hx => by rw [State.expire_of_schedule_none hf hx]⟩
  intro u g lost
  have loses := Flow.onExpiry_loses (gateOpen := s.gateOpen f.defn) (hop := s.params.genHop) hok hx h
  refine ⟨fun hp => ?_, fun hp => ?_⟩
  · rw [Flow.lose_plain (f := { f.missed with misses := f.defn.lossThreshold }) hp] at loses
    rw [State.expire_plain hf hx loses]
    rfl
  · rw [Flow.lose_cut (f := { f.missed with misses := f.defn.lossThreshold }) hp] at loses
    rw [State.expire_generated hf hx loses]
    rfl

end Sys2Proof.Proofs
end

section
/-! SUPPORT. The other timers (R52, R120, R149, R156, R163): the sweep and the commands that start it or wait for it, the
samples, the lease, the acknowledgement timer, the completion of a request, and the statements. -/
namespace Sys2Proof.Machine

variable {s : State} {q : Req} {code : Byte}

/-! ## The clock moved on -/

section
variable (s) (m : Moment)

@[simp] theorem State.agent_elapse : (s.elapse m).agent = s.agent := by
  obtain ⟨m', h⟩ := s.elapse_eq m
  rw [h]

@[simp] theorem State.reporter_elapse : (s.elapse m).reporter = s.reporter := by
  obtain ⟨m', h⟩ := s.elapse_eq m
  rw [h]

@[simp] theorem State.sweep_elapse : (s.elapse m).sweep = s.sweep := by
  obtain ⟨m', h⟩ := s.elapse_eq m
  rw [h]

@[simp] theorem State.flow_elapse (i : Fin 64) : (s.elapse m).flow i = s.flow i := by
  obtain ⟨m', h⟩ := s.elapse_eq m
  rw [h]
  rfl

@[simp] theorem State.params_elapse : (s.elapse m).params = s.params := congrArg Agent.params (s.agent_elapse m)

end

/-! ## RESTART and CLEAR_TABLE at their takes (R51, R168) -/

theorem run_restart : run (requestOf 0x06 q) s = runRestart (requestOf 0x06 q) s := rfl

theorem run_clearTable : run (requestOf 0x26 q) s = runClearTable (requestOf 0x26 q) s := rfl

section
variable (h : s.heldBy q) (ho : q.operands = [])
include h ho

theorem runRestart_ok (hw : s.sweep = none) : runRestart (requestOf code q) s = (.restarting, s.leased) := by
  rw [runRestart, owned_of_heldBy h, sized_of_length_eq (List.length_eq_zero_iff.2 ho), if_neg (by simp [hw])]
  rfl

theorem runRestart_busy (hw : s.sweep ≠ none) : runRestart (requestOf code q) s = refuse .busy s := by
  rw [runRestart, owned_of_heldBy h, sized_of_length_eq (List.length_eq_zero_iff.2 ho),
    if_pos (Option.isSome_iff_ne_none.2 hw)]

theorem runClearTable_ok (hw : s.sweep = none) :
    runClearTable (requestOf code q) s
      = (.sweeping, (s.setSweep (some ⟨s.time, 0, 0, requestOf code q⟩)).leased) := by
  rw [runClearTable, owned_of_heldBy h, sized_of_length_eq (List.length_eq_zero_iff.2 ho), if_neg (by simp [hw])]
  rfl

theorem runClearTable_busy (hw : s.sweep ≠ none) : runClearTable (requestOf code q) s = refuse .busy s := by
  rw [runClearTable, owned_of_heldBy h, sized_of_length_eq (List.length_eq_zero_iff.2 ho),
    if_pos (Option.isSome_iff_ne_none.2 hw)]

end

/-! ## The sweep (R52) -/

theorem State.visit_none (h : s.sweep = none) : s.visit = s := by
  simp only [State.visit, h]

theorem Sweep.removedAfter_eq (w : Sweep) (x : Option Flow) :
    w.removedAfter x = w.removed + (if x.isSome then 1 else 0) := by
  cases x <;> rfl

section
variable {w : Sweep} (h : s.sweep = some w)
include h

theorem State.visit_next (k : Fin 64) (hk : k.val = w.next.val + 1) :
    s.visit = ((s.elapseTo w.nextVisit).setFlow w.next none).setSweep
      (some ⟨w.start, k, w.removedAfter (s.flow w.next), w.request⟩) := by
  have hlt : w.next.val + 1 < 64 := hk ▸ k.isLt
  obtain rfl : k = ⟨w.next.val + 1, hlt⟩ := Fin.ext hk
  simp only [State.visit, h, dif_pos hlt, State.elapseTo, State.flow_elapse]

theorem State.visit_last (hlast : w.next.val = 63) :
    s.visit = ((((s.elapseTo w.nextVisit).setFlow w.next none).setSweep none).setAgent
      { s.agent with sweepPending := none }).respond w.request .ok [byte (w.removedAfter (s.flow w.next))] false := by
  have hlt : ¬w.next.val + 1 < 64 := by omega
  simp only [State.visit, h, dif_neg hlt, State.elapseTo, State.flow_elapse, State.agent_setFlow,
    State.agent_elapse]

end

/-! ## Samples (R148 to R150) -/

section
variable {x : Sense} {t : Time}

theorem Sense.qualify_agrees (hq : x.qualification = none) (h : x.raw = x.debounced) : x.qualify t = x := by
  simp only [Sense.qualify, hq, h, if_true]

theorem Sense.qualify_starts (hq : x.qualification = none) (h : x.raw ≠ x.debounced) (hd : x.debounce ≠ 0) :
    x.qualify t = { x with qualification := some ⟨x.raw, t + ticks x.debounce.toNat⟩ } := by
  simp only [Sense.qualify, hq, if_neg h, if_neg hd]

theorem Sense.qualify_abandons {r : Qualification} (hq : x.qualification = some r) (h : x.raw = x.debounced) :
    x.qualify t = { x with qualification := none } := by
  simp only [Sense.qualify, hq, h, if_true]

theorem Sense.qualify_continues {r : Qualification} (hq : x.qualification = some r) (h : x.raw ≠ x.debounced)
    (hb : before t r.completes = true) : x.qualify t = x := by
  simp only [Sense.qualify, hq, if_neg h, if_pos hb]

/-- The debounced state changes: at once with debounce time 0, else at the end of the qualification (R149). -/
theorem Sense.qualify_changes (h : x.raw ≠ x.debounced)
    (hc : (x.qualification = none ∧ x.debounce = 0)
      ∨ ∃ r, x.qualification = some r ∧ before t r.completes = false) :
    x.qualify t = { x with debounced := x.raw, qualification := none } := by
  rcases hc with ⟨hq, hd⟩ | ⟨r, hq, hb⟩
  · simp only [Sense.qualify, hq, if_neg h, if_pos hd]
  · simp only [Sense.qualify, hq, if_neg h, hb, Bool.false_eq_true, if_false]

end

/-- A sample that leaves the debounced state raises nothing. -/
theorem State.sample_steady {i : Fin 4} {level : Level} {y : Sense} (hy : (s.input i).sampled level = y)
    (h : y.debounced = (s.input i).debounced) :
    s.sample i level = (s.elapseTo (s.input i).nextSample).setInput i y := by
  simp only [State.sample, hy, Sense.sampleCause, h, ne_eq, not_true_eq_false, decide_false, Bool.and_false,
    Bool.false_eq_true, if_false]

/-- What a change of the debounced state to `becomes` raises: nothing before the input is settled, else what the edge
setting selects (R150, R154). -/
def Sense.changeCause (x : Sense) (becomes : SenseState) : Option Cause :=
  if x.settled = false then none else x.edges.select becomes

section
variable {i : Fin 4} {level : Level} {y : Sense} (hy : (s.input i).sampled level = y)
  (h : y.debounced ≠ (s.input i).debounced) (he : y.edges = (s.input i).edges)
include hy h he

theorem State.sample_silent (hc : (s.input i).changeCause y.debounced = none) :
    s.sample i level = (s.elapseTo (s.input i).nextSample).setInput i y := by
  have cause : (s.input i).sampleCause y = none := by
    rw [← hc]
    cases hs : (s.input i).settled <;> simp [Sense.sampleCause, Sense.changeCause, hs, h, he]
  simp only [State.sample, hy, cause]

theorem State.sample_raises {c : Cause} (hc : (s.input i).changeCause y.debounced = some c) :
    s.sample i level = ((s.elapseTo (s.input i).nextSample).setInput i y).raiseEvent c (byte i.val) := by
  have cause : (s.input i).sampleCause y = some c := by
    rw [← hc]
    cases hs : (s.input i).settled <;> simp [Sense.sampleCause, Sense.changeCause, hs, h, he]
  simp only [State.sample, hy, cause]

end

/-! ## The lease and the acknowledgement timer (R120, R163) -/

theorem State.leaseExpires_running {e : Time} {a : Address} (he : s.agent.lease = some e)
    (ha : s.agent.holder = some a) :
    s.leaseExpires = ((s.elapseTo e).setAgent { s.agent with holder := none, lease := none }).raiseEvent
      .mgmtClaimExpired (a.setWidth 8) := by
  simp only [State.leaseExpires, he, ha, State.elapseTo, State.agent_elapse]

theorem State.leaseExpires_idle (h : s.agent.lease = none ∨ s.agent.holder = none) : s.leaseExpires = s := by
  unfold State.leaseExpires
  split
  · next he ha => rcases h with h | h <;> simp_all
  · rfl

section
variable {e : Time} {dest : Address} (hw : s.reporter.state = .waitAck) (he : s.reporter.timer = some e)
  (hd : s.params.reportAddr = some dest)
include hw he hd

theorem State.ackTimerExpires_resends (hr : s.reporter.retries < s.params.reportRetries) :
    s.ackTimerExpires = (s.elapseTo e).resendReport dest := by
  simp only [State.ackTimerExpires, hw, he, State.elapseTo, State.params_elapse, hd, State.reporter_elapse, hr, if_true]

theorem State.ackTimerExpires_stalls (hr : s.params.reportRetries ≤ s.reporter.retries) :
    s.ackTimerExpires = (s.elapseTo e).setReporter { s.reporter with state := .stalled, timer := none } := by
  simp only [State.ackTimerExpires, hw, he, State.elapseTo, State.params_elapse, hd, State.reporter_elapse,
    if_neg (Nat.not_lt.mpr hr), State.stall]

end

theorem State.ackTimerExpires_idle (h : s.reporter.state ≠ .waitAck ∨ s.reporter.timer = none) :
    s.ackTimerExpires = s := by
  unfold State.ackTimerExpires
  split
  · next hw he => rcases h with h | h <;> simp_all
  · rfl

theorem State.resendReport_eq (s : State) (dest : Address) :
    s.resendReport dest = (s.setReporter { s.reporter with
      retries := s.reporter.retries + 1
      timer := some (s.time + BitVec.ofNat 32 (s.params.reportInterval * 10000)) }).sendReport dest
        ((s.reporter.outstanding.filter (fun i => !i.acked)).map (·.id)) := rfl

/-! ## Completion of a request (R156, R158, R168) -/

theorem State.takeFreely_of_queue_nil (h : s.agent.queue = []) : s.takeFreely = s := by
  unfold State.takeFreely
  split
  · next hq => simp [h] at hq
  · rfl

section
variable {head : Request} {rest : List Request} (hs : s.agent.service = .idle) (hq : s.agent.queue = head :: rest)
include hs hq

theorem State.takeFreely_of_raised (hr : s.raised ≠ []) : s.takeFreely = s.raise .take := by
  simp only [State.takeFreely, hs, hq, List.isEmpty_iff, hr, if_false]

theorem State.takeFreely_of_raised_nil (hr : s.raised = []) :
    s.takeFreely = (s.setAgent { s.agent with queue := rest }).take head := by
  simp only [State.takeFreely, hs, hq, List.isEmpty_iff, hr, if_true, State.takeNext_of_queue hs hq]

end

section
variable (s) (r : Request) (st : Status) (results : List Byte) (mark : Bool)

@[simp] theorem State.queue_respond : (s.respond r st results mark).agent.queue = s.agent.queue := by
  obtain ⟨c, ps, ys, h⟩ := s.respond_frame r st results mark
  rw [h]

@[simp] theorem State.service_respond : (s.respond r st results mark).agent.service = s.agent.service := by
  obtain ⟨c, ps, ys, h⟩ := s.respond_frame r st results mark
  rw [h]

@[simp] theorem State.time_enqueue (p : Port) (e : QueueEntry) : (s.enqueue p e).time = s.time := by
  obtain ⟨x, ys, h⟩ := s.enqueue_frame p e
  rw [h]
  rfl

/-- A response built: the cache, the offer and the notice (R158, R159). -/
theorem State.respond_eq (r : Request) (st : Status) (res : List Byte) (mark : Bool) (s : State) :
    let payload := r.code :: st.code :: res
    let f := Frame.build .mrs r.requester s.station false 0 r.tag s.params.genHop payload
    let cache := ⟨r.requester, r.tag, r.code, payload⟩
      :: (s.agent.cache.filter (fun e => decide (e.requester ≠ r.requester))).take 3
    s.respond r st res mark
      = ((s.setAgent { s.agent with cache := cache }).enqueue r.ingress ⟨f, .mrs, mark⟩).raise
          (.notice ⟨s.time, .gen, none, .generated, f.header, payload.length, payload⟩) := by
  intro payload f cache
  rw [State.respond, State.offerGenerated, State.time_enqueue]
  rfl

/-- A response leaves its notice among what is raised. -/
theorem State.raised_respond_ne_nil : (s.respond r st results mark).raised ≠ [] := by
  simp [State.respond, State.offerGenerated, State.raise]

end

end Sys2Proof.Machine

/-! ## The statements -/

namespace Sys2Proof.Proofs

open Sys2Proof Sys2Proof.Machine

/-- Settles O31: the two commands with and without a sweep, and a visit before, at and without entry 63. -/
theorem restartClearTableAndSweep : Obligations.RestartClearTableAndSweep := by
  refine ⟨fun q s hh ho => ⟨fun h hw => ?_, fun h hw => ?_, fun h hw => ?_, fun h hw => ?_⟩,
    fun s hs => ⟨fun hw => ?_, fun w hw => ?_⟩⟩
  · exact exec_of_run rfl h (run_restart.trans (runRestart_ok hh ho hw))
  · exact exec_of_run rfl h (run_restart.trans (runRestart_busy hh ho hw))
  · exact exec_of_run rfl h (run_clearTable.trans (runClearTable_ok hh ho hw))
  · exact exec_of_run rfl h (run_clearTable.trans (runClearTable_busy hh ho hw))
  · have visit : exec .sweepVisit s = .next s.visit.settle := exec_of_free rfl hs
    rw [visit, State.visit_none hw]
  · intro u n
    have visit : exec .sweepVisit s = .next s.visit.settle := exec_of_free rfl hs
    have removed : w.removedAfter (s.flow w.next) = n := w.removedAfter_eq _
    refine ⟨fun k hk => ?_, fun hlast => ?_⟩
    · rw [visit, State.visit_next hw k hk, removed]
      rfl
    · rw [visit, State.visit_last hw hlast, removed]
      rfl

/-- Settles O32: the qualification step of R149, branch by branch, and the event of R150. -/
theorem senseSampleQualifies : Obligations.SenseSampleQualifies := by
  intro i level s hs x u raw y changed event
  have sample : exec (.senseSample i level) s = .next (s.sample i level).settle := exec_of_free rfl hs
  rw [sample]
  let z : Sense := { x with terminal := level, level := level }
  have sampled (w : Sense) (h : z.qualify x.nextSample = w) :
      x.sampled level = { w with nextSample := x.nextSample + 10, settled := true } := by
    rw [← h]
    rfl
  have steady (w : Sense) (h : z.qualify x.nextSample = w) (hd : w.debounced = x.debounced) :
      s.sample i level = u.setInput i { w with nextSample := x.nextSample + 10, settled := true } :=
    State.sample_steady (sampled w h) hd
  refine ⟨fun hq hr => ?_, fun hq hr hd => ?_, fun r hq hr => ?_, fun r hq hr hb => ?_, fun hr hc => ?_⟩
  · rw [steady z (Sense.qualify_agrees hq hr) rfl]
  · rw [steady _ (Sense.qualify_starts (x := z) hq hr hd) rfl]
    rfl
  · rw [steady _ (Sense.qualify_abandons (x := z) hq hr) rfl]
  · rw [steady z (Sense.qualify_continues hq hr hb) rfl]
  · have qualified : x.sampled level = { y with debounced := raw, qualification := none } :=
      sampled _ (Sense.qualify_changes (x := z) hr hc)
    have event_eq : x.changeCause raw = event := by
      cases hset : x.settled
      · simp [Sense.changeCause, event, hset]
      · cases hraw : raw <;> cases hedge : x.edges <;>
          simp [Sense.changeCause, event, hset, hraw, hedge, Edges.select]
    refine ⟨fun he => ?_, fun c he => ?_⟩
    · rw [State.sample_silent qualified hr rfl (event_eq.trans he)]
    · rw [State.sample_raises qualified hr rfl (event_eq.trans he)]

/-- Settles O33: the two timers where they run and where they do not. -/
theorem leaseAndAckTimerExpire : Obligations.LeaseAndAckTimerExpire := by
  refine ⟨fun s hs => ?_, fun s hs => ?_⟩
  · have expiry : exec .leaseExpiry s = .next s.leaseExpires.settle := exec_of_free rfl hs
    rw [expiry]
    exact ⟨fun e a he ha => by rw [State.leaseExpires_running he ha], fun h => by rw [State.leaseExpires_idle h]⟩
  · have expiry : exec .ackTimerExpiry s = .next s.ackTimerExpires.settle := exec_of_free rfl hs
    rw [expiry]
    refine ⟨fun e dest hw he hd hr => ?_, fun e dest hw he hd hr => ?_, fun h => ?_⟩
    · rw [State.ackTimerExpires_resends hw he hd hr, State.resendReport_eq]
      simp only [State.elapseTo, State.reporter_elapse, State.params_elapse]
    · rw [State.ackTimerExpires_stalls hw he hd hr]
    · rw [State.ackTimerExpires_idle h]

/-- Settles O34: the completion of each kind of reply, and the response that it builds. -/
theorem requestCompletesWithResponse : Obligations.RequestCompletesWithResponse := by
  refine ⟨fun s hs => ?_, State.respond_eq⟩
  have completion : exec .requestCompletion s = .next s.completion.settle := exec_of_free rfl hs
  rw [completion]
  refine ⟨fun r ends st res hserve => ?_, fun r ends w hserve hw => ?_, fun r ends hserve => ?_, fun h => ?_⟩
  · intro t
    have completes : s.completion = t.takeFreely := by
      simp only [State.completion, hserve, State.completeRequest, State.unserve, State.elapseTo, State.agent_elapse]
      rfl
    have queue : t.agent.queue = s.agent.queue := State.queue_respond _ _ _ _ _
    have idle : t.agent.service = .idle := State.service_respond _ _ _ _ _
    rw [completes]
    refine ⟨fun hq => ?_, fun hq => ?_⟩
    · rw [State.takeFreely_of_queue_nil (queue.trans hq)]
    · obtain ⟨head, rest, hq⟩ := List.exists_cons_of_ne_nil hq
      rw [State.takeFreely_of_raised idle (queue.trans hq) (State.raised_respond_ne_nil _ _ _ _ _)]
  · intro t
    have completes : s.completion = t.takeFreely := by
      simp only [State.completion, hserve, State.completeRequest, State.elapseTo, State.agent_elapse, State.sweep_elapse,
        hw]
      rfl
    rw [completes]
    refine ⟨fun hq => ?_, fun head rest hq hr => ?_⟩
    · rw [State.takeFreely_of_queue_nil (s := t) hq]
    · have raised : t.raised = [] := (s.raised_elapse _).trans hr
      rw [State.takeFreely_of_raised_nil (s := t) rfl hq raised, State.take_eq]
  · simp only [State.completion, hserve, State.completeRequest, State.elapseTo, State.agent_elapse]
  · rcases h with h | h <;> simp only [State.completion, h]

end Sys2Proof.Proofs
end

section
/-! SUPPORT. Attention events at the list, the beginning and the end of reports (R102, R103, R117, R118, R121, R122), and
the statements. -/
namespace Sys2Proof.Machine

variable {s : State} {a : Attention} {e : AttentionEvent}

/-! ## Events at the list -/

theorem Attention.screens_iff : a.screens e = true ↔
    ((a.setting e.cause).masked = true ∨ (e.cause.isFlow = true ∧ e.quiet = some true)) := by
  simp [Attention.screens]

theorem Attention.screens_eq_false
    (h : ¬((a.setting e.cause).masked = true ∨ (e.cause.isFlow = true ∧ e.quiet = some true))) : a.screens e = false :=
  Bool.eq_false_iff.mpr (mt Attention.screens_iff.mp h)

theorem nextRecordId_eq {n : Nat} (h : n ≤ 65535) : nextRecordId n = if n = 65535 then 1 else n + 1 := by
  unfold nextRecordId
  split <;> split <;> omega

/-- A record is added to as R102 says, its count stopping at 255. -/
theorem AttentionRecord.add_eq {r : AttentionRecord} (h : r.count ≤ 255) :
    r.add e = { r with count := min 255 (r.count + 1), last := e.time, state := .unreported } := by
  rw [← AttentionRecord.add_count e h]
  rfl

/-! ## The beginning of a report (R117, R118) -/

theorem State.pollReporter_begins {dest : Address} (hi : s.reporter.state = .idle) (hd : s.params.reportAddr = some dest)
    (ha : s.addressed = true) (hr : ∃ r ∈ s.attention.records, r.state = .unreported) :
    s.pollReporter = s.beginReport dest := by
  have unreported : s.attention.records.any (fun r => decide (r.state = .unreported)) = true := by
    simpa [List.any_eq_true] using hr
  simp only [State.pollReporter, hd]
  exact if_pos ⟨hi, ha, unreported⟩

theorem State.pollReporter_of_not (h : s.reporter.state ≠ .idle ∨ s.params.reportAddr = none ∨ s.addressed = false
    ∨ ∀ r ∈ s.attention.records, r.state ≠ .unreported) : s.pollReporter = s := by
  unfold State.pollReporter
  split
  · rfl
  · next dest hd =>
    refine if_neg ?_
    rintro ⟨hi, ha, hr⟩
    rcases h with h | h | h | h
    · exact h hi
    · simp [hd] at h
    · simp [ha] at h
    · simp only [List.any_eq_true, decide_eq_true_eq] at hr
      obtain ⟨r, hmem, hst⟩ := hr
      exact h r hmem hst

/-! ## The end of a report (R121, R122) -/

theorem State.leaveStall_stalled (h : s.reporter.state = .stalled) : s.leaveStall = s.abandonReport.pollReporter := if_pos h

theorem State.leaveStall_not (h : s.reporter.state ≠ .stalled) : s.leaveStall = s := if_neg h

theorem State.stallExit_other {a : Address} (h : s.params.reportAddr ≠ some a) : s.stallExit a = s := if_neg h

theorem State.stallExit_not {a : Address} (h : s.reporter.state ≠ .stalled) : s.stallExit a = s := by
  unfold State.stallExit
  split
  · exact State.leaveStall_not h
  · rfl

theorem State.stallExit_stalled {a : Address} (h : s.reporter.state = .stalled) (ha : s.params.reportAddr = some a) :
    s.stallExit a = s.abandonReport.pollReporter := (if_pos ha).trans (State.leaveStall_stalled h)

theorem State.reportAddrWritten_stalled (h : s.reporter.state = .stalled) :
    s.reportAddrWritten = s.abandonReport.pollReporter := by
  simp only [State.reportAddrWritten, h, State.leaveStall_stalled h]

theorem State.reportAddrWritten_waiting (h : s.reporter.state = .waitAck) :
    s.reportAddrWritten = s.abandonReport.pollReporter := by
  simp only [State.reportAddrWritten, h]

theorem State.reportAddrWritten_idle (h : s.reporter.state = .idle) : s.reportAddrWritten = s.pollReporter := by
  simp only [State.reportAddrWritten, h]

/-! ## A stall that is told its end (R121) -/

/-- A STALLED reporter with report address `a` has the end of its stall among what is raised. -/
def State.willLeave (a : Address) (s : State) : Prop :=
  s.reporter.state = .stalled → Raised.stallExit a ∈ s.raised ∧ s.params.reportAddr = some a

variable {addr : Address}

/-- One taking keeps it: the end of the stall stays raised until it is taken, and the stall is over when it is. -/
theorem State.willLeave_takeOne (h : s.willLeave addr) (hr : s.raised ≠ []) : s.takeOne.willLeave addr := by
  obtain ⟨x, -, n, heq⟩ := State.takeOne_eq hr
  let u : State := { s with raised := s.raised.erase x, choices := n }
  have goesOn : u.Continues (u.takeRaised x) := .takeRaised u x
  rw [heq]
  intro hst
  obtain ⟨hu, haddr⟩ := goesOn.stall hst
  obtain ⟨hmem, ha⟩ := h hu
  have hx : x ≠ .stallExit addr := by
    rintro rfl
    have left : u.takeRaised (.stallExit addr) = u.leaveStall := if_pos ha
    have hst : (u.takeRaised (.stallExit addr)).reporter.state = .stalled := hst
    rw [left] at hst
    exact u.leaveStall_not_stalled hst
  obtain ⟨ys, hy⟩ := goesOn.raised
  refine ⟨?_, haddr.trans ha⟩
  have kept : Raised.stallExit addr ∈ u.raised := (List.mem_erase_of_ne hx.symm).mpr hmem
  show Raised.stallExit addr ∈ (u.takeRaised x).raised
  rw [hy]
  exact List.mem_append_left ys kept

theorem State.willLeave_drain (n : Nat) : ∀ s : State, s.willLeave addr → (s.drain n).willLeave addr := by
  induction n with
  | zero => exact fun s h => h
  | succ n ih =>
    intro s h
    have pruned : s.prune.willLeave addr := fun hst =>
      have ⟨hmem, ha⟩ := h hst
      ⟨List.mem_filter.mpr ⟨hmem, decide_eq_true hst⟩, ha⟩
    by_cases hr : s.prune.raised = []
    · rwa [State.drain_succ_of_nil hr]
    · rw [State.drain_succ_of_ne_nil hr]
      exact ih _ (State.willLeave_takeOne pruned hr)

/-- When everything raised is taken, the stall is over. -/
theorem State.settle_not_stalled (h : s.willLeave addr) : s.settle.reporter.state ≠ .stalled := fun hst => by
  obtain ⟨hmem, -⟩ := State.willLeave_drain (s.work + 1) s h hst
  have none : (s.drain (s.work + 1)).raised = [] := s.takeAll_raised
  rw [none] at hmem
  cases hmem

/-- What follows a request's admission tells the STALLED reporter. -/
theorem State.willLeave_afterRequest (ha : s.params.reportAddr = some addr) (hst : s.reporter.state = .stalled) :
    (s.afterRequest addr).willLeave addr := by
  have told : s.tellReporter addr = s.raise (.stallExit addr) := if_pos ⟨hst, ha⟩
  have raised : Raised.stallExit addr ∈ (s.raise (.stallExit addr)).raised := by simp
  have nonempty : ¬(s.raise (.stallExit addr)).raised.isEmpty = true := by simp
  unfold State.afterRequest
  rw [told]
  unfold State.takeFreely
  split
  · rw [if_neg nonempty]
    exact fun _ => ⟨List.mem_append_left _ raised, ha⟩
  · exact fun _ => ⟨raised, ha⟩

end Sys2Proof.Machine

/-! ## The statements -/

namespace Sys2Proof.Proofs

open Sys2Proof Sys2Proof.Machine

/-- Settles O35: the event screened, added to its record, made into a record, or lost. -/
theorem attentionEventIsTaken : Obligations.AttentionEventIsTaken := by
  intro e a ha screened
  have ⟨_, hrank, _, _, hrange, hlost, hnext1, hnext2⟩ := ha
  refine ⟨fun hs => Attention.take_screened (Attention.screens_iff.mpr hs), fun hs r hr hc ho => ?added,
    fun hs hno hlen => ?created, fun hs hno hlen => ?lost⟩ <;>
  have passes : a.screens e = false := Attention.screens_eq_false hs
  case added =>
    obtain ⟨-, -, -, hcount⟩ := hrange r hr
    rw [Attention.take_added ha passes hr hc ho, AttentionRecord.add_eq hcount]
    exact ⟨rfl, rfl⟩
  case created =>
    obtain ⟨k, hk, hbefore, hfree⟩ := freshId_spec (used := a.records.map (·.id)) (by simp; omega) hnext1 hnext2
    obtain ⟨before, after, heq, hb, hafter, hins⟩ := insertRecord_eq (a.newRecord e (candidateId a.nextId k)) hrank
    have taken := Attention.take_created passes hno hlen
    dsimp only at taken
    rw [hk, hins, nextRecordId_eq (candidateId_range a.nextId k).2] at taken
    refine ⟨before, after, candidateId a.nextId k, heq, hb, hafter, fun x hx hid => hfree ?_, ⟨k, rfl, fun j hj => ?_⟩,
      taken⟩
    · exact List.mem_map.mpr ⟨x, hx, hid⟩
    · exact List.mem_map.mp (hbefore j hj)
  case lost =>
    have lost_eq : (if a.lost < 65535 then a.lost + 1 else a.lost) = min 65535 (a.lost + 1) := by split <;> omega
    rw [Attention.take_lost passes hno (by omega), lost_eq]

/-- Settles O36: when a report begins, and the frame that goes out. -/
theorem reportBegins : Obligations.ReportBegins := by
  refine fun s => ⟨fun dest hi hd ha hr => State.pollReporter_begins hi hd ha hr, State.pollReporter_of_not,
    fun dest ids => ?_⟩
  intro records f t u
  have sent : s.sendReport dest ids = u.offerGenerated none f := by
    have route : (s.mapRecords ids AttentionRecord.sent).route dest = s.route dest := rfl
    cases hr : s.route dest <;> simp only [State.sendReport, route, hr, Target.atnPort, u] <;> rfl
  have time : u.time = s.time := by
    cases hr : s.route dest <;> simp only [u, hr, State.time_enqueue] <;> rfl
  rw [sent, State.offerGenerated, time]

/-- Settles O37: the end of the stall stays raised until it is taken; and what ends a report in each state. -/
theorem stallEndsAndReportsAreAbandoned : Obligations.StallEndsAndReportsAreAbandoned := by
  refine ⟨fun c code q s hc hlisten hst ha => ?_, fun s => ?_⟩
  · obtain ⟨hreset, haddressed, -⟩ := hlisten
    refine ⟨(s.request code q).settle, ?_, ?_⟩
    · rw [exec_asRequest hc, State.command, State.unlessReset_free s hreset]
    · have request : s.request code q = ((s.admission (requestOf code q) true).2).afterRequest q.requester :=
        if_pos haddressed
      rw [request]
      refine State.settle_not_stalled (addr := q.requester) (State.willLeave_afterRequest ?_ ?_)
      · rw [State.params_admission, ha]
      · rw [State.reporter_admission, hst]
  · intro ids freed
    have freed_eq : s.abandonReport = freed := rfl
    have leaves (h : s.reporter.state = .stalled) : s.leaveStall = freed.pollReporter := State.leaveStall_stalled h
    refine ⟨fun h => ⟨State.reportAddrWritten_stalled h, leaves h, leaves h, fun a ha => State.stallExit_stalled h ha⟩,
      fun h => ⟨State.reportAddrWritten_waiting h, ?_⟩, fun h => ⟨State.reportAddrWritten_idle h, ?_⟩,
      fun a ha => State.stallExit_other ha⟩ <;>
    · have free : s.reporter.state ≠ .stalled := by simp [h]
      exact ⟨State.leaveStall_not free, State.leaveStall_not free, fun a => State.stallExit_not free⟩

end Sys2Proof.Proofs
end

section
/-! SUPPORT. The capture unit (R131, R134, R135, R137): a notice and an announcement at one ring, and the statement. -/
namespace Sys2Proof.Machine

variable {s : State} {k : Fin 8} {r : Ring}

/-! ## A ring put back -/

theorem State.putRing_frozen (h : r.state = .frozen) :
    s.putRing k r = (s.setRing k (some r)).raiseEvent .ringFrozen (byte k.val) := if_pos h

theorem State.putRing_not_frozen (h : r.state ≠ .frozen) : s.putRing k r = s.setRing k (some r) := if_neg h

/-! ## A notice (R134, R135) -/

theorem Ring.recording_iff : r.recording = true ↔ r.state = .running ∨ r.state = .postfill := by
  simp [Ring.recording]

theorem Ring.accepts_iff {n : Notice} : r.accepts n = true ↔ (r.state = .running ∨ r.state = .postfill)
    ∧ r.defn.verdictFilter.getLsbD n.verdict.code = true ∧ r.defn.portFilter.getLsbD n.ingress.code = true
    ∧ (r.defn.flowFilter = none ∨ r.defn.flowFilter = n.flow) := by
  simp [Ring.accepts, Ring.recording_iff, and_assoc]

section
variable (hr : s.ring k = some r) {n : Notice}
include hr

theorem State.record_refused (h : ¬r.accepts n = true) : s.record n k = s := by
  simp only [State.record, hr, if_neg h]

theorem State.record_accepted (h : r.accepts n = true) :
    s.record n k = (s.setMemory (s.capture.memory.write (r.slot r.next) (r.keep n))).putRing k r.advance := by
  simp only [State.record, hr, if_pos h]

end

/-- After a write every slot reads as before, but for the one written. -/
theorem CaptureMemory.read_write (a slot : Nat) (c : CaptureRecord) (m : CaptureMemory) :
    CaptureMemory.read a (m.write slot c) = if a = slot then some c else CaptureMemory.read a m := by
  split
  · next h => rw [h, CaptureMemory.read_write_same]
  · next h => rw [CaptureMemory.read_write_ne h]

/-! ## An announcement (R137) -/

theorem Ring.matchesEvent_iff {c : Cause} {object : Byte} : r.matchesEvent c object = true ↔
    ∃ t, r.defn.trigger = some t ∧ t.cause = c ∧ (t.object = none ∨ t.object = some object) := by
  unfold Ring.matchesEvent
  cases r.defn.trigger <;> simp

theorem Ring.trigger_postfill (hs : r.state = .running) (hp : r.defn.postCount ≠ 0) :
    r.trigger = { r with state := .postfill, remaining := some r.defn.postCount } := by
  rw [Ring.trigger, if_pos hs, if_neg hp]

theorem Ring.trigger_frozen (hs : r.state = .running) (hp : r.defn.postCount = 0) :
    r.trigger = { r with state := .frozen, remaining := none } := by
  rw [Ring.trigger, if_pos hs, if_pos hp]

theorem Ring.trigger_not_running (hs : r.state ≠ .running) : r.trigger = r := if_neg hs

section
variable {c : Cause} {object : Byte} (hr : s.ring k = some r)
include hr

theorem State.triggerBy_missed (h : ¬(r.state = .running ∧ r.matchesEvent c object = true)) :
    s.triggerBy c object k = s := by
  have no : ¬(decide (r.state = .running) && r.matchesEvent c object) = true := by simpa using h
  simp only [State.triggerBy, hr, if_neg no]

theorem State.triggerBy_hit (hs : r.state = .running) (h : r.matchesEvent c object = true) :
    s.triggerBy c object k = s.putRing k r.trigger := by
  have yes : (decide (r.state = .running) && r.matchesEvent c object) = true := by simp [hs, h]
  simp only [State.triggerBy, hr, if_pos yes]

end

end Sys2Proof.Machine

/-! ## The statement -/

namespace Sys2Proof.Proofs

open Sys2Proof Sys2Proof.Machine

/-- Settles O38: the filters of R134, the write and its freeze; the triggers of R137. -/
theorem ringRecordsAndTriggers : Obligations.RingRecordsAndTriggers := by
  refine ⟨fun n k r s hr hok => ?_, fun c object k r s hr => ?_⟩
  · intro accepts freezes slot
    have accepts_iff : accepts ↔ r.accepts n = true := Ring.accepts_iff.symm
    refine ⟨fun h => State.record_refused hr (mt accepts_iff.mpr h), fun h =>
      ⟨s.capture.memory.write slot (r.keep n), fun a => CaptureMemory.read_write a slot _ _, fun hf => ?_, fun hf => ?_⟩⟩
    · rw [State.record_accepted hr (accepts_iff.mp h), Ring.advance_of_freezes hf]
      exact State.putRing_frozen rfl
    · rw [State.record_accepted hr (accepts_iff.mp h), Ring.advance_of_not_freezes hok hf]
      refine State.putRing_not_frozen ?_
      obtain ⟨hst, -⟩ := h
      rcases hst with hst | hst <;> simp [hst]
  · intro hits
    have hits_iff : hits ↔ r.state = .running ∧ r.matchesEvent c object = true :=
      and_congr_right' Ring.matchesEvent_iff.symm
    refine ⟨fun h => State.triggerBy_missed hr (mt hits_iff.mpr h), fun h hp => ?_, fun h hp => ?_⟩ <;>
    obtain ⟨hst, hm⟩ := hits_iff.mp h
    · rw [State.triggerBy_hit hr hst hm, Ring.trigger_postfill hst hp]
      exact State.putRing_not_frozen nofun
    · rw [State.triggerBy_hit hr hst hm, Ring.trigger_frozen hst hp]
      exact State.putRing_frozen rfl

end Sys2Proof.Proofs
end

section
/-! SUPPORT. Requests in general (R18, R156, R157): the request that is not taken at once, the checks up to the length, and
the statements. -/
namespace Sys2Proof.Machine

variable {s : State} {q : Req} {code : Byte}

/-! ## What follows an admission (R121, R156) -/

theorem State.takeFreely_of_busy (h : s.agent.service ≠ .idle) : s.takeFreely = s := by
  unfold State.takeFreely
  split
  · next hs _ => exact absurd hs h
  · rfl

/-- While something is raised, the take of an IDLE agent is raised as well. -/
theorem State.takeFreely_eq (hr : s.raised ≠ []) : s.takeFreely
    = { s with raised := s.raised ++ if s.agent.service = .idle ∧ s.agent.queue ≠ [] then [.take] else [] } := by
  by_cases hs : s.agent.service = .idle
  · cases hq : s.agent.queue with
    | nil => simp [State.takeFreely_of_queue_nil hq]
    | cons r rest => simp [State.takeFreely_of_raised hs hq hr, hs, State.raise]
  · simp [State.takeFreely_of_busy hs, hs]

theorem State.tellReporter_of_keepsStall (h : s.keepsStall q) : s.tellReporter q.requester = s := by
  refine if_neg ?_
  rintro ⟨hst, ha⟩
  rcases h with h | h
  · exact h hst
  · exact h ha

/-- A retry and a duplicate in flight leave the queue as it was. -/
theorem State.queue_admission (r : Request) (report : Bool)
    (h : cacheHit r s.agent.cache ≠ none ∨ s.inFlight r = true) :
    (s.admission r report).2.agent.queue = s.agent.queue := by
  cases hc : cacheHit r s.agent.cache with
  | some e =>
    obtain ⟨ys, hy⟩ := s.resend_frame r e
    rw [State.admission_cached hc, hy]
  | none =>
    rcases h with h | h
    · exact absurd hc h
    · rw [State.admission_inFlight hc report h]

/-! ## The check order (R157) -/

theorem run_unknown (h : Command.ofCode code = none) : run (requestOf code q) s = refuse .unknownCommand s := by
  have named : Command.ofCode (requestOf code q).code = none := h
  simp only [run, named]

theorem runReadAttention_bad_length (hl : q.operands.length ≠ 2) :
    runReadAttention (requestOf code q) s = refuse .badLength s := by
  rw [runReadAttention]
  split
  · next ho => exact absurd (congrArg List.length ho) hl
  · rfl

theorem runReadRing_bad_length (hl : q.operands.length ≠ 5) :
    runReadRing (requestOf code q) s = refuse .badLength s := by
  rw [runReadRing]
  split
  · next ho => exact absurd (congrArg List.length ho) hl
  · rfl

/-- The commands that need the claim whatever their operands (R161). -/
def Command.needsClaim : Command → Bool
  | .writeParam | .restart | .portControl | .setRoute | .loadFlow | .retimeFlow | .armFlow | .disarmFlow | .dropFlow
  | .clearTable | .clearAttention | .setCause | .forceAttention | .defineRing | .startRing | .stopRing | .triggerRing
  | .discardRing | .senseConfig => true
  | _ => false

/-- The commands that need it for their clear option (R32, R47). -/
def Command.mayClear : Command → Bool
  | .readCounters | .readFlow => true
  | _ => false

/-- The number of operand bytes, where it is fixed (R174). -/
def Command.operandCount : Command → Option Nat
  | .discover | .claim | .release | .restart | .clearTable | .clearAttention | .readSense => some 0
  | .readParam | .armFlow | .disarmFlow | .dropFlow | .startRing | .stopRing | .triggerRing | .discardRing => some 1
  | .portControl | .readRoute | .readAttention | .forceAttention => some 2
  | .readCounters | .setRoute | .readFlow | .setCause => some 3
  | .senseConfig => some 4
  | .writeParam | .readRing => some 5
  | .retimeFlow => some 7
  | .defineRing => some 16
  | .loadFlow => some 24
  | .ackAttention => none

/-- The codes of the commands that need the claim. -/
theorem Command.exists_of_claimed : ∀ code ∈ ([0x05, 0x06, 0x10, 0x12, 0x20, 0x21, 0x22, 0x23, 0x24, 0x26, 0x32, 0x33,
    0x34, 0x40, 0x41, 0x42, 0x43, 0x45, 0x50] : List Byte),
    ∃ x ∈ Command.all, x.code = code ∧ x.needsClaim = true := by decide

theorem Command.exists_of_clearing : ∀ code ∈ ([0x11, 0x25] : List Byte),
    ∃ x ∈ Command.all, x.code = code ∧ x.mayClear = true := by decide

/-- The codes with their numbers of operand bytes, and which of them the two lists of codes that need no claim hold. -/
theorem Command.exists_of_counted : ∀ c ∈ ([(0x01, 0), (0x02, 0), (0x03, 0), (0x04, 1), (0x05, 5), (0x06, 0), (0x10, 2),
    (0x11, 3), (0x12, 3), (0x13, 2), (0x20, 24), (0x21, 7), (0x22, 1), (0x23, 1), (0x24, 1), (0x25, 3), (0x26, 0),
    (0x30, 2), (0x32, 0), (0x33, 3), (0x34, 2), (0x40, 16), (0x41, 1), (0x42, 1), (0x43, 1), (0x44, 5), (0x45, 1),
    (0x50, 4), (0x51, 0)] : List (Byte × Nat)),
    ∃ x ∈ Command.all, x.code = c.1 ∧ x.operandCount = some c.2
      ∧ (x.needsClaim = true → c.1 ∉ ([0x11, 0x25] : List Byte))
      ∧ ((x.needsClaim || x.mayClear) = true
        → c.1 ∉ ([0x01, 0x02, 0x03, 0x04, 0x13, 0x30, 0x44, 0x51] : List Byte)) := by decide

section
variable {x : Command}

theorem run_not_owner (hx : x.needsClaim = true) (h : ¬s.heldBy q) :
    run (requestOf x.code q) s = refuse .notOwner s := by
  cases x
  case writeParam | restart | portControl | setRoute | loadFlow | retimeFlow | armFlow | disarmFlow | dropFlow
    | clearTable | clearAttention | setCause | forceAttention | defineRing | startRing | stopRing | triggerRing
    | discardRing | senseConfig => exact owned_of_not_heldBy h _
  all_goals cases hx

theorem run_clear_not_owner (hx : x.mayClear = true) (hc : q.operands[2]? = some 1) (h : ¬s.heldBy q) :
    run (requestOf x.code q) s = refuse .notOwner s := by
  have refused : (requestOf x.code q).operands[2]? = some 1 ∧ (!s.holds (requestOf x.code q)) = true :=
    ⟨hc, by simpa using mt State.holds_requestOf.mp h⟩
  cases x
  case readCounters | readFlow => exact if_pos refused
  all_goals cases hx

/-- Once the claim is no reason to refuse, the wrong number of operand bytes is. -/
theorem run_bad_length {n : Nat} (hx : x.operandCount = some n) (howned : x.needsClaim = true → s.heldBy q)
    (hclear : x.mayClear = true → q.operands[2]? = some 1 → s.heldBy q) (hl : q.operands.length ≠ n) :
    run (requestOf x.code q) s = refuse .badLength s := by
  have passes (hx : x.mayClear = true) :
      ¬((requestOf x.code q).operands[2]? = some 1 ∧ (!s.holds (requestOf x.code q)) = true) := by
    rintro ⟨hc, hn⟩
    have held : s.holds (requestOf x.code q) = true := State.holds_requestOf.mpr (hclear hx hc)
    simp [held] at hn
  cases x
  case ackAttention => cases hx
  case discover | claim | release | readSense =>
    cases hx
    exact sized_of_length_ne hl _
  case restart | loadFlow | clearTable | clearAttention | defineRing =>
    cases hx
    exact (owned_of_heldBy (howned rfl) _).trans (sized_of_length_ne hl _)
  case writeParam | portControl | setRoute | retimeFlow | armFlow | disarmFlow | dropFlow | setCause | forceAttention
    | startRing | stopRing | triggerRing | discardRing | senseConfig =>
    cases hx
    refine (owned_of_heldBy (howned rfl) _).trans ?_
    split
    · next ho => exact absurd (congrArg List.length ho) hl
    · rfl
  case readCounters | readFlow =>
    cases hx
    refine (if_neg (passes rfl)).trans ?_
    split
    · next ho => exact absurd (congrArg List.length ho) hl
    · rfl
  case readParam =>
    cases hx
    exact runReadParam_bad_length hl
  case readRoute =>
    cases hx
    exact runReadRoute_bad_length hl
  case readAttention =>
    cases hx
    exact runReadAttention_bad_length hl
  case readRing =>
    cases hx
    exact runReadRing_bad_length hl

end

end Sys2Proof.Machine

/-! ## The statements -/

namespace Sys2Proof.Proofs

open Sys2Proof Sys2Proof.Machine

/-- Settles O39: no admission in unaddressed operation; else the admission, and what follows it. -/
theorem requestIsNotTakenAtOnce : Obligations.RequestIsNotTakenAtOnce := by
  intro c code q s hc hs
  have event : exec c s = .next (s.request code q).settle := by
    rw [exec_asRequest hc, State.command, State.unlessReset_free s hs]
  rw [event]
  refine ⟨fun ha => ?_, fun ha => ?_⟩
  · rw [State.request, if_neg (by simp [ha])]
  intro r t
  have request : s.request code q = t.afterRequest q.requester := if_pos ha
  have reporter : t.reporter = s.reporter := State.reporter_admission _ _ _
  have params : t.params = s.params := State.params_admission _ _ _
  have service : t.agent.service = s.agent.service := State.service_admission _ _ _
  rw [request]
  refine ⟨fun hk hbusy => ?_, fun hst haddr => ?_⟩
  · have keeps : t.keepsStall q := by
      rw [State.keepsStall, reporter, params]
      exact hk
    rw [State.afterRequest, State.tellReporter_of_keepsStall keeps]
    rcases hbusy with hbusy | ⟨hq, hadm⟩
    · rw [State.takeFreely_of_busy (by rwa [service])]
    · rw [State.takeFreely_of_queue_nil ((State.queue_admission r true hadm).trans hq)]
  · have told : t.tellReporter q.requester = t.raise (.stallExit q.requester) :=
      if_pos ⟨by rw [reporter, hst], by rw [params, haddr]⟩
    rw [State.afterRequest, told, State.takeFreely_eq (by simp), ← service]
    rfl

/-- Settles O40: the three checks in the order of R157; what refuses at the take leaves the state. -/
theorem refusedCommands : Obligations.RefusedCommands := by
  refine ⟨fun q s => ⟨fun code hcode h => ?unknown, fun c code hc h => ⟨fun hmem hh => ?owned, fun hmem hop hh => ?clear,
    fun n hmem hclaim hl => ?length⟩⟩, fun r s st res hr hst => ?refused⟩
  case unknown => exact exec_of_refused rfl h (run_unknown hcode)
  case owned =>
    obtain ⟨x, -, rfl, hx⟩ := Command.exists_of_claimed code hmem
    exact exec_of_refused hc h (run_not_owner hx hh)
  case clear =>
    obtain ⟨x, -, rfl, hx⟩ := Command.exists_of_clearing code hmem
    exact exec_of_refused hc h (run_clear_not_owner hx hop hh)
  case length =>
    obtain ⟨x, -, rfl, hn, hclearing, hfree⟩ := Command.exists_of_counted (code, n) hmem
    refine exec_of_refused hc h (run_bad_length hn (fun hx => ?_) (fun hx hop => ?_) hl)
    · rcases hclaim with hh | hu | ⟨hcl, -⟩
      · exact hh
      · exact absurd hu (hfree (by simp [hx]))
      · exact absurd hcl (hclearing hx)
    · rcases hclaim with hh | hu | ⟨-, hno⟩
      · exact hh
      · exact absurd hu (hfree (by simp [hx]))
      · exact absurd hop hno
  case refused => exact (s.ran_run r).refused st res hr hst

end Sys2Proof.Proofs
end

section
/-! SUPPORT. WRITE_PARAM (R166), PORT_CONTROL (R12) and READ_COUNTERS (R32): what each check answers, what each command
writes, and the statements. -/
namespace Sys2Proof.Machine

variable {s : State} {q : Req} {code : Byte}

/-! ## Values of parameters (R164, R166) -/

/-- A value outside the range of its parameter is not written. -/
theorem Params.write_eq_none {station : Address} {n : Byte} {v : Nat} (x : Params)
    (h : (n = 1 ∧ 1 < v) ∨ (n = 2 ∧ (v = 0 ∨ 7 < v)) ∨ (n = 3 ∧ v ≠ 255 ∧ (126 < v ∨ v = station.toNat))
      ∨ (n = 4 ∧ (v = 0 ∨ 255 < v)) ∨ (n = 5 ∧ 15 < v) ∨ (n = 6 ∧ (v < 10 ∨ 6000 < v)) ∨ (n = 7 ∧ 7 < v)
      ∨ (n = 8 ∧ (v = 0 ∨ 15 < v))) :
    ∃ p : Param, p.number = n ∧ p.readOnly = false ∧ x.write station p v = none := by
  rcases h with ⟨rfl, hv⟩ | ⟨rfl, hv⟩ | ⟨rfl, hv, hv'⟩ | ⟨rfl, hv⟩ | ⟨rfl, hv⟩ | ⟨rfl, hv⟩ | ⟨rfl, hv⟩ | ⟨rfl, hv⟩
  · exact ⟨.unmatchedPolicy, rfl, rfl, by rw [Params.write, if_neg (by omega), if_neg (by omega)]⟩
  · exact ⟨.mgmtPorts, rfl, rfl, if_neg (by omega)⟩
  · exact ⟨.reportAddr, rfl, rfl, by rw [Params.write, if_neg hv, if_neg (by omega)]⟩
  · exact ⟨.reportInterval, rfl, rfl, if_neg (by omega)⟩
  · exact ⟨.reportRetries, rfl, rfl, if_neg (by omega)⟩
  · exact ⟨.leaseTime, rfl, rfl, if_neg (by omega)⟩
  · exact ⟨.alertRank, rfl, rfl, if_neg (by omega)⟩
  · exact ⟨.genHop, rfl, rfl, if_neg (by omega)⟩

/-- A value in the range of a writable parameter is written. -/
theorem Params.write_eq_some {station : Address} {p : Param} {v : Nat} {x y : Params}
    (h : (p = .unmatchedPolicy ∧ v = 0 ∧ y = { x with unmatchedPolicy := .forward })
      ∨ (p = .unmatchedPolicy ∧ v = 1 ∧ y = { x with unmatchedPolicy := .drop })
      ∨ (p = .mgmtPorts ∧ 1 ≤ v ∧ v ≤ 7 ∧ y = { x with mgmtPorts := BitVec.ofNat 3 v })
      ∨ (p = .reportAddr ∧ v = 255 ∧ y = { x with reportAddr := none })
      ∨ (p = .reportAddr ∧ v ≤ 126 ∧ v ≠ station.toNat ∧ y = { x with reportAddr := some (BitVec.ofNat 7 v) })
      ∨ (p = .reportInterval ∧ 1 ≤ v ∧ v ≤ 255 ∧ y = { x with reportInterval := v })
      ∨ (p = .reportRetries ∧ v ≤ 15 ∧ y = { x with reportRetries := v })
      ∨ (p = .leaseTime ∧ 10 ≤ v ∧ v ≤ 6000 ∧ y = { x with leaseTime := v })
      ∨ (p = .alertRank ∧ v ≤ 7 ∧ y = { x with alertRank := v })
      ∨ (p = .genHop ∧ 1 ≤ v ∧ v ≤ 15 ∧ y = { x with genHop := BitVec.ofNat 4 v })) :
    p.readOnly = false ∧ x.write station p v = some y := by
  rcases h with ⟨rfl, rfl, rfl⟩ | ⟨rfl, rfl, rfl⟩ | ⟨rfl, h1, h2, rfl⟩ | ⟨rfl, rfl, rfl⟩ | ⟨rfl, h1, h2, rfl⟩
    | ⟨rfl, h1, h2, rfl⟩ | ⟨rfl, h1, rfl⟩ | ⟨rfl, h1, h2, rfl⟩ | ⟨rfl, h1, rfl⟩ | ⟨rfl, h1, h2, rfl⟩
  · exact ⟨rfl, rfl⟩
  · exact ⟨rfl, rfl⟩
  · exact ⟨rfl, if_pos ⟨h1, h2⟩⟩
  · exact ⟨rfl, rfl⟩
  · exact ⟨rfl, by rw [Params.write, if_neg (by omega), if_pos ⟨h1, h2⟩]⟩
  · exact ⟨rfl, if_pos ⟨h1, h2⟩⟩
  · exact ⟨rfl, if_pos h1⟩
  · exact ⟨rfl, if_pos ⟨h1, h2⟩⟩
  · exact ⟨rfl, if_pos h1⟩
  · exact ⟨rfl, if_pos ⟨h1, h2⟩⟩

/-! ## WRITE_PARAM -/

theorem run_writeParam : run (requestOf 0x05 q) s = runWriteParam (requestOf 0x05 q) s := rfl

section
variable {n a b c d : Byte} (h : s.heldBy q) (ho : q.operands = [n, a, b, c, d])
include h ho

theorem runWriteParam_bad_index (hn : n ∉ Param.all.map Param.number) :
    runWriteParam (requestOf code q) s = refuse .badIndex s := by
  simp only [runWriteParam, owned_of_heldBy h, operands_requestOf, ho, Param.ofByte_eq_none hn]

section
variable {p : Param} (hn : p.number = n)
include hn

theorem runWriteParam_not_allowed (hp : p.readOnly = true) :
    runWriteParam (requestOf code q) s = refuse .notAllowed s := by
  simp only [runWriteParam, owned_of_heldBy h, operands_requestOf, ho, ← hn, Param.ofByte_number, hp, if_true]

section
variable (hp : p.readOnly = false)
include hp

theorem runWriteParam_bad_value (hv : s.params.write s.station p (word32 a b c d).toNat = none) :
    runWriteParam (requestOf code q) s = refuse .badValue s := by
  simp only [runWriteParam, owned_of_heldBy h, operands_requestOf, ho, ← hn, Param.ofByte_number, hp,
    Bool.false_eq_true, if_false, writeValue, hv]

/-- The write: the value before and after, the effect on the reporter, and the lease. -/
theorem runWriteParam_ok {y : Params} (hv : s.params.write s.station p (word32 a b c d).toNat = some y) :
    runWriteParam (requestOf code q) s =
      (.answer .ok (n :: (be32 (s.paramValue p)
          ++ be32 ((s.setAgent { s.agent with params := y }).paramValue p))),
        ((s.setAgent { s.agent with params := y }).paramWritten p).leased) := by
  simp only [runWriteParam, owned_of_heldBy h, operands_requestOf, ho, ← hn, Param.ofByte_number, hp,
    Bool.false_eq_true, if_false, writeValue, hv, executed_eq_leased]

end
end
end

/-! ## PORT_CONTROL -/

theorem run_portControl : run (requestOf 0x10 q) s = runPortControl (requestOf 0x10 q) s := rfl

/-- A byte above 2 names no port (R175). -/
theorem portOfByte_eq_none {x : Byte} (h : 2 < x.toNat) : portOfByte x = none := by
  have ne {y : Byte} (hy : y.toNat ≤ 2) : x ≠ y := by
    rintro rfl
    omega
  simp [portOfByte, ne]

/-- A byte up to 1 is 0 or 1. -/
theorem byte_le_one {x : Byte} (h : x.toNat ≤ 1) : x = 0 ∨ x = 1 := by
  rcases Nat.le_one_iff_eq_zero_or_eq_one.mp h with h | h
  · exact .inl (BitVec.eq_of_toNat_eq h)
  · exact .inr (BitVec.eq_of_toNat_eq h)

theorem byte_ne_of_toNat {x y : Byte} (h : y.toNat < x.toNat) : x ≠ y := by
  rintro rfl
  omega

theorem PortState.block_blocked {x : PortState} (h : x.admin = .blocked) : x.block = x := by
  simp only [PortState.block, h]

/-- BLOCK on an ENABLED port, with the removed frames told by their origins (R93). -/
theorem PortState.block_enabled {x : PortState} (h : x.admin = .enabled) :
    x.block = { x with
      admin := .blocked, normal := []
      urgent := x.urgent.filter (fun e => decide (e.origin ≠ .sub))
      blocked := x.blocked + BitVec.ofNat 32
        (x.normal.length + (x.urgent.filter (fun e => decide (e.origin = .sub))).length) } := by
  simp only [PortState.block, h, decide_not]
  rfl

section
variable {a b : Byte} (h : s.heldBy q) (ho : q.operands = [a, b])
include h ho

theorem runPortControl_bad_value (hv : 2 < a.toNat ∨ 1 < b.toNat) :
    runPortControl (requestOf code q) s = refuse .badValue s := by
  rw [runPortControl, owned_of_heldBy h, operands_requestOf, ho]
  rcases hv with ha | hb
  · simp only [portOfByte_eq_none ha]
  · have not_zero : b ≠ 0 := byte_ne_of_toNat (Nat.lt_of_lt_of_le Nat.zero_lt_one (Nat.le_of_lt hb))
    have not_one : b ≠ 1 := byte_ne_of_toNat hb
    simp only [if_neg not_zero, if_neg not_one]
    split <;> rfl

theorem runPortControl_block {p : Port} (ha : a = portByte p) (hb : b = 0) :
    runPortControl (requestOf code q) s = executedPorts (s.setPort p (s.port p).block) := by
  simp only [runPortControl, owned_of_heldBy h, operands_requestOf, ho, ha, hb, portOfByte_portByte, if_true]

theorem runPortControl_unblock {p : Port} (ha : a = portByte p) (hb : b = 1) :
    runPortControl (requestOf code q) s = executedPorts (s.setPort p { s.port p with admin := .enabled }) := by
  have not_zero : ¬(1 : Byte) = 0 := by decide
  simp only [runPortControl, owned_of_heldBy h, operands_requestOf, ho, ha, hb, portOfByte_portByte, if_true,
    if_neg not_zero]
  rfl

end

theorem executedPorts_eq (s : State) : executedPorts s = (.answer .ok
    [(s.port .u).line.code, (s.port .u).admin.code, (s.port .d).line.code, (s.port .d).admin.code,
     (s.port .b).line.code, (s.port .b).admin.code], s.leased) := rfl

/-! ## READ_COUNTERS -/

theorem run_readCounters : run (requestOf 0x11 q) s = runReadCounters (requestOf 0x11 q) s := rfl

/-- A boolean operand above 1 is illegal (R175). -/
theorem boolOfByte_eq_none {x : Byte} (h : 1 < x.toNat) : boolOfByte x = none := by
  have not_zero : x ≠ 0 := byte_ne_of_toNat (Nat.lt_of_lt_of_le Nat.zero_lt_one (Nat.le_of_lt h))
  have not_one : x ≠ 1 := byte_ne_of_toNat h
  rw [boolOfByte, if_neg not_zero, if_neg not_one]

/-- The owner check passes without the clear option, and for the holder (R157). -/
theorem clear_passes {a b k : Byte} (ho : q.operands = [a, b, k]) (h : k ≠ 1 ∨ s.heldBy q) :
    ¬((requestOf code q).operands[2]? = some 1 ∧ (!s.holds (requestOf code q)) = true) := by
  rintro ⟨hk, hn⟩
  rw [operands_requestOf, ho] at hk
  rcases h with h | h
  · exact h (Option.some.inj hk)
  · simp [State.holds_requestOf.mpr h] at hn

/-- The verdict counters as a list, in the order of their indices. -/
theorem PortState.verdicts_toList (x : PortState) :
    x.verdicts.toList = (List.finRange 15).map (fun i => x.verdicts[i]) := by
  apply List.ext_getElem
  · simp
  · intro i h1 h2
    simp

theorem PortState.group_zero (x : PortState) :
    x.group 0 = [x.transmitted, x.aborted, x.fragments, x.full, x.blocked, x.offline].flatMap be32 := by
  simp [PortState.group]

theorem PortState.group_one (x : PortState) : x.group 1 = (x.verdicts.toList.take 8).flatMap be32 := by
  rw [x.verdicts_toList, ← List.map_take, List.flatMap_map]
  rfl

theorem PortState.group_two (x : PortState) : x.group 2 = (x.verdicts.toList.drop 8).flatMap be32 := by
  rw [x.verdicts_toList, ← List.map_drop, List.flatMap_map]
  rfl

section
variable {a g k : Byte} (ho : q.operands = [a, g, k])
include ho

theorem runReadCounters_bad_value (hh : k ≠ 1 ∨ s.heldBy q) (hv : 2 < a.toNat ∨ 2 < g.toNat ∨ 1 < k.toNat) :
    runReadCounters (requestOf code q) s = refuse .badValue s := by
  rw [runReadCounters, if_neg (clear_passes ho hh), operands_requestOf, ho]
  rcases hv with ha | hg | hk
  · simp only [portOfByte_eq_none ha]
  · simp only [if_pos hg]
    split <;> rfl
  · simp only [boolOfByte_eq_none hk]
    split
    · next hnone => cases hnone
    · rfl

section
variable {p : Port} (ha : a = portByte p) (hg : g.toNat ≤ 2)
include ha hg

theorem runReadCounters_read (hk : k = 0) :
    runReadCounters (requestOf code q) s = (.answer .ok (a :: g :: (s.port p).group g.toNat), s) := by
  have plain : k ≠ 1 ∨ s.heldBy q := .inl (by rw [hk]; decide)
  rw [runReadCounters, if_neg (clear_passes ho plain), operands_requestOf, ho, ha, hk]
  have clear : boolOfByte 0 = some false := rfl
  simp only [portOfByte_portByte, clear, if_neg (Nat.not_lt.mpr hg)]
  rfl

theorem runReadCounters_clear (hk : k = 1) (hh : s.heldBy q) :
    runReadCounters (requestOf code q) s = (.answer .ok (a :: g :: (s.port p).group g.toNat),
      (s.setPort p ((s.port p).clearGroup g.toNat)).leased) := by
  rw [runReadCounters, if_neg (clear_passes ho (.inr hh)), operands_requestOf, ho, ha, hk]
  have clear : boolOfByte 1 = some true := rfl
  simp only [portOfByte_portByte, clear, if_neg (Nat.not_lt.mpr hg)]
  rfl

end
end

end Sys2Proof.Machine

/-! ## The statements -/

namespace Sys2Proof.Proofs

open Sys2Proof Sys2Proof.Machine

/-- Settles O43: the three checks of R166 in their order, then the write. -/
theorem writeParamWrites : Obligations.WriteParamWrites := by
  intro q s n a b c d h hh ho v x
  have exec_eq {reply : Reply} {t : State} (hr : runWriteParam (requestOf 0x05 q) s = (reply, t)) :
      exec (.writeParam q) s = .next (t.served 0x05 q reply) := exec_of_run rfl h (run_writeParam.trans hr)
  refine ⟨fun hn => exec_eq (runWriteParam_bad_index hh ho hn), fun hn => ?_, fun hv => ?_, fun p y hn hv => ?_⟩
  · obtain ⟨p, hp, hro⟩ : ∃ p : Param, p.number = n ∧ p.readOnly = true := by
      simp only [List.mem_cons, List.not_mem_nil, or_false] at hn
      rcases hn with rfl | rfl | rfl
      · exact ⟨.stationAddr, rfl, rfl⟩
      · exact ⟨.revision, rfl, rfl⟩
      · exact ⟨.time, rfl, rfl⟩
    exact exec_eq (runWriteParam_not_allowed hh ho hp hro)
  · obtain ⟨p, hp, hro, hw⟩ := Params.write_eq_none x hv
    exact exec_eq (runWriteParam_bad_value hh ho hp hro hw)
  · obtain ⟨hro, hw⟩ := Params.write_eq_some hv
    exact exec_eq (runWriteParam_ok hh ho hn hro hw)

/-- Settles O45: the values checked, then BLOCK and UNBLOCK in either admin state. -/
theorem portControlSetsAdmin : Obligations.PortControlSetsAdmin := by
  intro q s a b h hh ho
  have exec_eq {reply : Reply} {t : State} (hr : runPortControl (requestOf 0x10 q) s = (reply, t)) :
      exec (.portControl q) s = .next (t.served 0x10 q reply) := exec_of_run rfl h (run_portControl.trans hr)
  refine ⟨fun hv => exec_eq (runPortControl_bad_value hh ho hv), fun p ha hb => ?_⟩
  intro x subs y t
  refine exec_eq (t := t.leased) ?_
  rw [← executedPorts_eq]
  rcases byte_le_one hb with hb | hb
  · have blocks : y = x.block := by
      have not_one : ¬(0 : Byte) = 1 := by decide
      cases hadmin : x.admin with
      | blocked => simp only [y, hb, if_neg not_one, hadmin, if_true, PortState.block_blocked hadmin]
      | enabled => simp only [y, hb, if_neg not_one, hadmin, reduceCtorEq, if_false, PortState.block_enabled hadmin, subs]
    rw [runPortControl_block hh ho ha hb, ← blocks]
  · have unblocks : y = { x with admin := .enabled } := if_pos hb
    rw [runPortControl_unblock hh ho ha hb, ← unblocks]

/-- Settles O46: the checks of R32, then the group read, and cleared where the option says so. -/
theorem readCountersAnswers : Obligations.ReadCountersAnswers := by
  intro q s a g k h ho
  have exec_eq {reply : Reply} {t : State} (hr : runReadCounters (requestOf 0x11 q) s = (reply, t)) :
      exec (.readCounters q) s = .next (t.served 0x11 q reply) := exec_of_run rfl h (run_readCounters.trans hr)
  refine ⟨fun hk hh => ?_, fun hh hv => exec_eq (runReadCounters_bad_value ho hh hv), fun p ha hg => ?_⟩
  · have cleared : q.operands[2]? = some 1 := by
      rw [ho, hk]
      rfl
    exact exec_of_refused rfl h (run_clear_not_owner (x := .readCounters) rfl cleared hh)
  intro x values y reply
  obtain ⟨hvalues, hy⟩ : x.group g.toNat = values.flatMap be32 ∧ x.clearGroup g.toNat = y := by
    have cases : g = 0 ∨ g = 1 ∨ g = 2 := by
      have : g.toNat = 0 ∨ g.toNat = 1 ∨ g.toNat = 2 := by omega
      rcases this with hg | hg | hg
      · exact .inl (BitVec.eq_of_toNat_eq hg)
      · exact .inr (.inl (BitVec.eq_of_toNat_eq hg))
      · exact .inr (.inr (BitVec.eq_of_toNat_eq hg))
    rcases cases with rfl | rfl | rfl
    · exact ⟨x.group_zero, rfl⟩
    · exact ⟨x.group_one, rfl⟩
    · exact ⟨x.group_two, rfl⟩
  refine ⟨fun hk => ?_, fun hk hh => ?_⟩
  · have read := runReadCounters_read (s := s) (code := 0x11) ho ha hg hk
    rw [show (s.port p).group g.toNat = values.flatMap be32 from hvalues] at read
    exact exec_eq read
  · have cleared := runReadCounters_clear (s := s) (code := 0x11) ho ha hg hk hh
    rw [show (s.port p).group g.toNat = values.flatMap be32 from hvalues,
      show (s.port p).clearGroup g.toNat = y from hy] at cleared
    exact exec_eq cleared

end Sys2Proof.Proofs
end

section
/-! SUPPORT. The commands on the flow table (R40 to R48): index and sweep checks, what each check of each command answers,
what each command writes, and the statements. -/
namespace Sys2Proof.Machine

variable {s : State} {q : Req} {code : Byte}

/-! ## Index and sweep checks (R40) -/

section
variable {b : Byte} {k : Fin 64 → Reply × State}

theorem onEntry_bad_index (h : 63 < b.toNat) : onEntry b s k = refuse .badIndex s := dif_neg (Nat.not_lt.mpr h)

theorem onEntry_busy (h : b.toNat ≤ 63) (hw : s.sweep ≠ none) : onEntry b s k = refuse .busy s := by
  rw [onEntry, dif_pos (Nat.lt_succ_of_le h), if_pos (Option.isSome_iff_ne_none.2 hw)]

theorem toNat_byte_fin {n : Nat} (hn : n ≤ 256) (i : Fin n) : (byte i.val).toNat = i.val := by
  rw [toNat_byte, Nat.mod_eq_of_lt (Nat.lt_of_lt_of_le i.isLt hn)]

theorem onEntry_byte (hw : s.sweep = none) (i : Fin 64) : onEntry (byte i.val) s k = k i := by
  have value : (byte i.val).toNat = i.val := toNat_byte_fin (by decide) i
  have index : (⟨(byte i.val).toNat, by rw [value]; exact i.isLt⟩ : Fin 64) = i := Fin.ext value
  rw [onEntry, dif_pos (by rw [value]; exact i.isLt), if_neg (by simp [hw]), index]

end

/-- The commands that write one entry of the table. -/
def Command.writesEntry : Command → Bool
  | .loadFlow | .retimeFlow | .armFlow | .disarmFlow | .dropFlow => true
  | _ => false

theorem exists_of_length_six {α : Type} {l : List α} (h : l.length = 6) : ∃ a b c d e f, l = [a, b, c, d, e, f] := by
  match l, h with
  | [a, b, c, d, e, f], _ => exact ⟨a, b, c, d, e, f, rfl⟩

/-- With the claim and the length right, such a command goes on to its entry. -/
theorem run_onEntry {x : Command} {i : Byte} {rest : List Byte} (hx : x.writesEntry = true) (h : s.heldBy q)
    (ho : q.operands = i :: rest) (hn : x.operandCount = some (rest.length + 1)) :
    ∃ k, run (requestOf x.code q) s = onEntry i s k := by
  cases x
  case loadFlow =>
    have hl : q.operands.length = 24 := by
      rw [ho]
      exact (Option.some.inj hn).symm
    have first : byteAt (requestOf Command.loadFlow.code q).operands 0 = i := by
      rw [operands_requestOf, ho]
      rfl
    exact ⟨_, (owned_of_heldBy h _).trans ((sized_of_length_eq hl _).trans (congrArg (fun b => onEntry b s _) first))⟩
  case retimeFlow =>
    obtain ⟨p1, p0, e1, e0, l1, l0, rfl⟩ := exists_of_length_six (Nat.succ.inj (Option.some.inj hn).symm)
    cases q
    cases ho
    exact ⟨_, owned_of_heldBy h _⟩
  case armFlow | disarmFlow | dropFlow =>
    obtain rfl : rest = [] := List.length_eq_zero_iff.mp (Nat.succ.inj (Option.some.inj hn).symm)
    cases q
    cases ho
    exact ⟨_, owned_of_heldBy h _⟩
  all_goals cases hx

/-- Their codes and operand bytes after the index. -/
theorem Command.exists_of_entryCode : ∀ c ∈ ([(0x20, 23), (0x21, 6), (0x22, 0), (0x23, 0), (0x24, 0)] : List (Byte × Nat)),
    ∃ x ∈ Command.all, x.code = c.1 ∧ x.writesEntry = true ∧ x.operandCount = some (c.2 + 1) := by decide

/-! ## LOAD_FLOW (R41) -/

/-- LOAD_FLOW after the checks of R40: the entry, the definition, the load. -/
def loadEntry (i : Fin 64) (bytes : List Byte) (s : State) : Reply × State :=
  if (s.flow i).any (fun f => decide (f.state ≠ .disabled)) then refuse .flowState s
  else match FlowDef.ofBytes bytes with
    | none => refuse .badValue s
    | some d => if d.avoids s.station then loadDefinition i d s else refuse .badValue s

theorem run_loadFlow : run (requestOf 0x20 q) s = runLoadFlow (requestOf 0x20 q) s := rfl

section
variable {i : Fin 64} {bytes : List Byte} (h : s.heldBy q) (ho : q.operands = byte i.val :: bytes)
  (hl : bytes.length = 23) (hw : s.sweep = none)
include h ho hl hw

/-- The claim, the length, the index and the sweep are no reason to refuse. -/
theorem runLoadFlow_eq : runLoadFlow (requestOf code q) s = loadEntry i bytes s := by
  have length : q.operands.length = 24 := by rw [ho, List.length_cons, hl]
  have first : byteAt q.operands 0 = byte i.val := by rw [ho]; rfl
  have rest : q.operands.drop 1 = bytes := by rw [ho]; rfl
  rw [runLoadFlow, owned_of_heldBy h, sized_of_length_eq length, operands_requestOf, first, onEntry_byte hw, rest]
  rfl

end

section
variable {i : Fin 64} {bytes : List Byte}

theorem loadEntry_flowState {f : Flow} (hf : s.flow i = some f) (hst : f.state ≠ .disabled) :
    loadEntry i bytes s = refuse .flowState s := if_pos (by simp [hf, hst])

section
variable (hfree : ∀ f, s.flow i = some f → f.state = .disabled)
include hfree

theorem not_running : ¬(s.flow i).any (fun f => decide (f.state ≠ .disabled)) = true := by
  simpa [Option.any_eq_true] using hfree

theorem loadEntry_unreadable (hd : FlowDef.ofBytes bytes = none) : loadEntry i bytes s = refuse .badValue s := by
  rw [loadEntry, if_neg (not_running hfree), hd]

theorem loadEntry_readable {d : FlowDef} (hd : FlowDef.ofBytes bytes = some d) :
    loadEntry i bytes s = if d.avoids s.station then loadDefinition i d s else refuse .badValue s := by
  rw [loadEntry, if_neg (not_running hfree), hd]

end
end

theorem FlowDef.avoids_iff {station : Address} (hst : station ≠ 127) (d : FlowDef) :
    d.avoids station = true ↔ d.src ≠ station ∧ d.dst ≠ station := by
  rw [FlowDef.avoids, decide_eq_false hst, Bool.false_or, Bool.and_eq_true, decide_eq_true_iff, decide_eq_true_iff]

theorem FlowDef.sameKey_iff {d e : FlowDef} : d.sameKey e = true ↔ d.src = e.src ∧ d.dst = e.dst ∧ d.ch = e.ch :=
  decide_eq_true_iff

theorem FlowDef.needsHold_iff {d : FlowDef} : d.needsHold = true ↔ d.missPolicy ≠ .report := decide_eq_true_iff

theorem State.freeSlot_eq_none : s.freeSlot = none ↔ ∀ k, s.slotTaken k = true := by
  simp [State.freeSlot]

/-- The free slot is the lowest that is free. -/
theorem State.freeSlot_eq_some {k : Fin 16} : s.freeSlot = some k ↔ s.slotTaken k = false ∧ ∀ j, j < k → s.slotTaken j = true := by
  rw [State.freeSlot, ← Fin.find?_eq_find?_finRange, Fin.find?_eq_some_iff]
  simp

theorem State.slotTaken_eq_false {k : Fin 16} :
    s.slotTaken k = false ↔ ∀ j f, s.flow j = some f → f.holdSlot ≠ some k := by
  rw [← Bool.not_eq_true, State.slotTaken_iff]
  simp

section
variable {i : Fin 64} {d : FlowDef}

theorem loadDefinition_duplicate (h : s.keyTaken i d = true) : loadDefinition i d s = refuse .duplicateKey s := if_pos h

section
variable (h : ¬s.keyTaken i d = true)
include h

theorem loadDefinition_no_slot (hp : d.missPolicy ≠ .report) (hslot : (s.slotOf i).or s.freeSlot = none) :
    loadDefinition i d s = refuse .noHoldSlot s := by
  rw [loadDefinition, if_neg h, if_pos (FlowDef.needsHold_iff.mpr hp), hslot]

/-- The load: the slot is the entry's own, else the lowest free one, and none where none is needed. -/
theorem loadDefinition_ok {slot : Option (Fin 16)}
    (hslot : (d.missPolicy = .report ∧ slot = none)
      ∨ (d.missPolicy ≠ .report ∧ slot ≠ none ∧ (s.slotOf i).or s.freeSlot = slot)) :
    loadDefinition i d s = (.answer .ok [byte i.val, slotByte slot], (s.setFlow i (some (.loaded d slot))).leased) := by
  rw [loadDefinition, if_neg h]
  rcases hslot with ⟨hp, rfl⟩ | ⟨hp, hsome, hslot⟩
  · rw [if_neg (by simp [FlowDef.needsHold_iff, hp])]
    rfl
  · obtain ⟨k, rfl⟩ := Option.ne_none_iff_exists'.mp hsome
    rw [if_pos (FlowDef.needsHold_iff.mpr hp), hslot]
    rfl

end
end

/-! ## RETIME_FLOW (R42) -/

theorem run_retimeFlow : run (requestOf 0x21 q) s = runRetimeFlow (requestOf 0x21 q) s := rfl

section
variable {i : Fin 64} {p1 p0 e1 e0 l1 l0 : Byte} (h : s.heldBy q) (hw : s.sweep = none)
  (ho : q.operands = [byte i.val, p1, p0, e1, e0, l1, l0])
include h hw ho

theorem runRetimeFlow_flowState (hf : s.flow i = none) :
    runRetimeFlow (requestOf code q) s = refuse .flowState s := by
  simp only [runRetimeFlow, owned_of_heldBy h, operands_requestOf, ho, onEntry_byte hw, hf]

section
variable {f : Flow} (hf : s.flow i = some f)
include hf

theorem runRetimeFlow_bad_value (hv : nat16 p1 p0 = 0 ∨ nat16 p1 p0 - 1 < nat16 e1 e0 ∨ nat16 p1 p0 - 1 < nat16 l1 l0) :
    runRetimeFlow (requestOf code q) s = refuse .badValue s := by
  have out : ¬(1 ≤ nat16 p1 p0 ∧ nat16 e1 e0 ≤ nat16 p1 p0 - 1 ∧ nat16 l1 l0 ≤ nat16 p1 p0 - 1) := by omega
  simp only [runRetimeFlow, owned_of_heldBy h, operands_requestOf, ho, onEntry_byte hw, hf, if_neg out]

theorem runRetimeFlow_ok (hp : 1 ≤ nat16 p1 p0) (he : nat16 e1 e0 ≤ nat16 p1 p0 - 1)
    (hl : nat16 l1 l0 ≤ nat16 p1 p0 - 1) :
    runRetimeFlow (requestOf code q) s
      = (.answer .ok (byte i.val :: f.state.code :: scheduleBytes f.schedule),
        (s.setFlow i (some { f with defn := { f.defn with
          period := nat16 p1 p0, early := nat16 e1 e0, late := nat16 l1 l0 } })).leased) := by
  have inRange : 1 ≤ nat16 p1 p0 ∧ nat16 e1 e0 ≤ nat16 p1 p0 - 1 ∧ nat16 l1 l0 ≤ nat16 p1 p0 - 1 := ⟨hp, he, hl⟩
  simp only [runRetimeFlow, owned_of_heldBy h, operands_requestOf, ho, onEntry_byte hw, hf, if_pos inRange,
    executed_eq_leased]

end
end

/-! ## ARM_FLOW, DISARM_FLOW, DROP_FLOW (R44 to R46) -/

theorem run_armFlow : run (requestOf 0x22 q) s = runArmFlow (requestOf 0x22 q) s := rfl

theorem run_disarmFlow : run (requestOf 0x23 q) s = runDisarmFlow (requestOf 0x23 q) s := rfl

theorem run_dropFlow : run (requestOf 0x24 q) s = runDropFlow (requestOf 0x24 q) s := rfl

section
variable {i : Fin 64} (h : s.heldBy q) (hw : s.sweep = none) (ho : q.operands = [byte i.val])
include h hw ho

theorem runArmFlow_flowState (hf : ∀ f, s.flow i = some f → f.state ≠ .disabled) :
    runArmFlow (requestOf code q) s = refuse .flowState s := by
  simp only [runArmFlow, owned_of_heldBy h, operands_requestOf, ho, onEntry_byte hw]
  cases hx : s.flow i with
  | none => rfl
  | some f => exact if_neg (hf f hx)

theorem runDropFlow_flowState (hf : ∀ f, s.flow i = some f → f.state ≠ .disabled) :
    runDropFlow (requestOf code q) s = refuse .flowState s := by
  simp only [runDropFlow, owned_of_heldBy h, operands_requestOf, ho, onEntry_byte hw]
  cases hx : s.flow i with
  | none => rfl
  | some f => exact if_neg (hf f hx)

theorem runDisarmFlow_flowState (hf : s.flow i = none) :
    runDisarmFlow (requestOf code q) s = refuse .flowState s := by
  simp only [runDisarmFlow, owned_of_heldBy h, operands_requestOf, ho, onEntry_byte hw, hf]

section
variable {f : Flow} (hf : s.flow i = some f)
include hf

theorem runDisarmFlow_running (hst : f.state ≠ .disabled) :
    runDisarmFlow (requestOf code q) s
      = (.answer .ok [byte i.val, f.state.code], (s.setFlow i (some (f.cleared .disabled))).leased) := by
  simp only [runDisarmFlow, owned_of_heldBy h, operands_requestOf, ho, onEntry_byte hw, hf, if_neg hst,
    executed_eq_leased]

section
variable (hst : f.state = .disabled)
include hst

theorem runDisarmFlow_disabled :
    runDisarmFlow (requestOf code q) s = (.answer .ok [byte i.val, 0], s.leased) := by
  simp only [runDisarmFlow, owned_of_heldBy h, operands_requestOf, ho, onEntry_byte hw, hf, hst, if_true,
    executed_eq_leased]
  rfl

theorem runArmFlow_ok :
    runArmFlow (requestOf code q) s
      = (.answer .ok [byte i.val, 1], (s.setFlow i (some { f.cleared .armed with holdContent := none })).leased) := by
  simp only [runArmFlow, owned_of_heldBy h, operands_requestOf, ho, onEntry_byte hw, hf, hst, if_true,
    executed_eq_leased]
  rfl

theorem runDropFlow_ok :
    runDropFlow (requestOf code q) s
      = (.answer .ok [byte i.val, slotByte f.holdSlot], (s.setFlow i none).leased) := by
  simp only [runDropFlow, owned_of_heldBy h, operands_requestOf, ho, onEntry_byte hw, hf, hst, if_true,
    executed_eq_leased]

end
end
end

/-! ## READ_FLOW (R47) -/

theorem run_readFlow : run (requestOf 0x25 q) s = runReadFlow (requestOf 0x25 q) s := rfl

section
variable {i part k : Byte} (ho : q.operands = [i, part, k])
include ho

theorem runReadFlow_passes (hh : k ≠ 1 ∨ s.heldBy q) :
    runReadFlow (requestOf code q) s = readFlowPart i part (boolOfByte k) s := by
  rw [runReadFlow, if_neg (clear_passes ho hh), operands_requestOf, ho]

end

section
variable {i part : Byte} {clear : Option Bool}

theorem readFlowPart_bad_index (h : 63 < i.toNat) : readFlowPart i part clear s = refuse .badIndex s :=
  dif_neg (Nat.not_lt.mpr h)

theorem readFlowPart_bad_value (h : i.toNat ≤ 63) (hv : clear = none ∨ 2 < part.toNat) :
    readFlowPart i part clear s = refuse .badValue s := by
  rw [readFlowPart, dif_pos (Nat.lt_succ_of_le h)]
  cases clear with
  | none => rfl
  | some c =>
    rcases hv with hv | hv
    · cases hv
    · exact if_pos hv

section
variable {j : Fin 64} (hi : i = byte j.val) (hp : part.toNat ≤ 2)
include hi hp

theorem readFlowPart_invalid (hf : s.flow j = none) (c : Bool) :
    readFlowPart i part (some c) s = (.answer .ok [i, 0], if c then s.leased else s) := by
  have value : i.toNat = j.val := by rw [hi]; exact toNat_byte_fin (by decide) j
  have index : (⟨i.toNat, by rw [value]; exact j.isLt⟩ : Fin 64) = j := Fin.ext value
  rw [readFlowPart, dif_pos (by rw [value]; exact j.isLt)]
  simp only [index, if_neg (Nat.not_lt.mpr hp), hf]
  cases c <;> rfl

theorem readFlowPart_valid {f : Flow} (hf : s.flow j = some f) (c : Bool) :
    readFlowPart i part (some c) s = (.answer .ok (i :: 1 :: f.part part.toNat),
      if c then (s.setFlow j (some { f with counters := .zero })).leased else s) := by
  have value : i.toNat = j.val := by rw [hi]; exact toNat_byte_fin (by decide) j
  have index : (⟨i.toNat, by rw [value]; exact j.isLt⟩ : Fin 64) = j := Fin.ext value
  rw [readFlowPart, dif_pos (by rw [value]; exact j.isLt)]
  simp only [index, if_neg (Nat.not_lt.mpr hp), hf]
  cases c <;> rfl

end
end

/-- The second part: eight counters. -/
theorem Flow.part_one (f : Flow) : f.part 1 = [f.counters.accepted, f.counters.forwarded, f.counters.gated,
    f.counters.early, f.counters.late, f.counters.missed, f.counters.substituted, f.counters.cuts].flatMap be32 := by
  simp [Flow.part]

/-- The third part: the other seven. -/
theorem Flow.part_two (f : Flow) : f.part 2 = [f.counters.duplicate, f.counters.stale, f.counters.skipped,
    f.counters.breaks, f.counters.wrongPort, f.counters.lengthFaults, f.counters.subSeen].flatMap be32 := by
  simp [Flow.part]

/-- A byte up to 2 is 0, 1 or 2. -/
theorem byte_le_two {x : Byte} (h : x.toNat ≤ 2) : x = 0 ∨ x = 1 ∨ x = 2 := by
  have : x.toNat = 0 ∨ x.toNat = 1 ∨ x.toNat = 2 := by omega
  rcases this with h | h | h
  · exact .inl (BitVec.eq_of_toNat_eq h)
  · exact .inr (.inl (BitVec.eq_of_toNat_eq h))
  · exact .inr (.inr (BitVec.eq_of_toNat_eq h))

end Sys2Proof.Machine

/-! ## The statements -/

namespace Sys2Proof.Proofs

open Sys2Proof Sys2Proof.Machine

/-- Settles O49: the checks of R41 in their order, then the load. -/
theorem loadFlowLoadsEntry : Obligations.LoadFlowLoadsEntry := by
  intro q s i bytes h hh ho hl
  have exec_eq {reply : Reply} {t : State} (hr : runLoadFlow (requestOf 0x20 q) s = (reply, t)) :
      exec (.loadFlow q) s = .next (t.served 0x20 q reply) := exec_of_run rfl h (run_loadFlow.trans hr)
  have entry (hw : s.sweep = none) := runLoadFlow_eq (code := 0x20) hh ho hl hw
  refine ⟨fun hw => ?_, fun f hw hf hst => exec_eq ((entry hw).trans (loadEntry_flowState hf hst)), fun hw hfree =>
    ⟨fun hd => exec_eq ((entry hw).trans (loadEntry_unreadable hfree hd)), fun d hd => ?_⟩⟩
  · obtain ⟨k, hk⟩ := run_onEntry (x := .loadFlow) rfl hh ho (by rw [hl]; rfl)
    have value : (byte i.val).toNat = i.val := toNat_byte_fin (by decide) i
    exact exec_of_refused rfl h (hk.trans (onEntry_busy (by omega) hw))
  have station : s.station ≠ 127 := by
    obtain ⟨⟨-, haddressed, -⟩, -⟩ := h
    exact of_decide_eq_true haddressed
  have readable := (entry hw).trans (loadEntry_readable hfree hd)
  refine ⟨fun hown => ?_, fun hsrc hdst => ?_⟩
  · have meets : ¬d.avoids s.station = true := by
      rw [FlowDef.avoids_iff station]
      tauto
    rw [if_neg meets] at readable
    exact exec_eq readable
  rw [if_pos ((FlowDef.avoids_iff station d).mpr ⟨hsrc, hdst⟩)] at readable
  intro held free taken
  have taken_iff : taken ↔ s.keyTaken i d = true := by
    simp only [State.keyTaken_iff, FlowDef.sameKey_iff, taken]
  have free_iff (k : Fin 16) : free k ↔ s.slotTaken k = false := State.slotTaken_eq_false.symm
  refine ⟨fun ht => exec_eq (readable.trans (loadDefinition_duplicate (taken_iff.mp ht))), fun ht hp hn hall => ?_,
    fun slot ht hslot => exec_eq (readable.trans (loadDefinition_ok (mt taken_iff.mpr ht) ?_))⟩
  · refine exec_eq (readable.trans (loadDefinition_no_slot (mt taken_iff.mpr ht) hp ?_))
    have own : s.slotOf i = none := hn
    have none_free : s.freeSlot = none := State.freeSlot_eq_none.mpr fun k => by
      simpa using mt (free_iff k).mpr (hall k)
    rw [own, none_free]
    rfl
  · rcases hslot with hno | ⟨hp, hheld, rfl⟩ | ⟨hp, hheld, k, rfl, hk, hlow⟩
    · exact .inl hno
    · refine .inr ⟨hp, hheld, ?_⟩
      obtain ⟨k, hk⟩ := Option.ne_none_iff_exists'.mp hheld
      have own : s.slotOf i = some k := hk
      rw [own, hk]
      rfl
    · refine .inr ⟨hp, nofun, ?_⟩
      have own : s.slotOf i = none := hheld
      have lowest : s.freeSlot = some k := State.freeSlot_eq_some.mpr ⟨(free_iff k).mp hk, fun j hj => by
        simpa using mt (free_iff j).mpr (hlow j hj)⟩
      rw [own, lowest]
      rfl

/-- Settles O50: the checks of R40 for the five commands; and RETIME_FLOW after them. -/
theorem indexAndSweepChecksAndRetimeFlow : Obligations.IndexAndSweepChecksAndRetimeFlow := by
  refine ⟨fun q s i rest c code n hc h hh ho hl hmem => ?_, fun q s i p1 p0 e1 e0 l1 l0 h hh hw ho => ?_⟩
  · obtain ⟨x, -, rfl, hx, hn⟩ := Command.exists_of_entryCode (code, n) hmem
    obtain ⟨k, hk⟩ := run_onEntry hx hh ho (hl.symm ▸ hn)
    exact ⟨fun hi => exec_of_refused hc h (hk.trans (onEntry_bad_index hi)),
      fun hi hw => exec_of_refused hc h (hk.trans (onEntry_busy hi hw))⟩
  intro p e l
  have exec_eq {reply : Reply} {t : State} (hr : runRetimeFlow (requestOf 0x21 q) s = (reply, t)) :
      exec (.retimeFlow q) s = .next (t.served 0x21 q reply) := exec_of_run rfl h (run_retimeFlow.trans hr)
  refine ⟨fun hf => exec_eq (runRetimeFlow_flowState hh hw ho hf), fun f hf =>
    ⟨fun hv => exec_eq (runRetimeFlow_bad_value hh hw ho hf hv), fun hp he hl => ?_⟩⟩
  intro times
  have times_eq : scheduleBytes f.schedule = times := by
    cases hx : f.schedule <;> simp only [times, hx] <;> rfl
  rw [← times_eq]
  exact exec_eq (runRetimeFlow_ok hh hw ho hf hp he hl)

/-- Settles O51: each of the three commands on an invalid, a running and a DISABLED entry. -/
theorem armDisarmDropFlow : Obligations.ArmDisarmDropFlow := by
  intro q s i hh hw ho
  have exec_arm {reply : Reply} {t : State} (h : s.ready 0x22 q) (hr : runArmFlow (requestOf 0x22 q) s = (reply, t)) :
      exec (.armFlow q) s = .next (t.served 0x22 q reply) := exec_of_run rfl h (run_armFlow.trans hr)
  have exec_disarm {reply : Reply} {t : State} (h : s.ready 0x23 q)
      (hr : runDisarmFlow (requestOf 0x23 q) s = (reply, t)) :
      exec (.disarmFlow q) s = .next (t.served 0x23 q reply) := exec_of_run rfl h (run_disarmFlow.trans hr)
  have exec_drop {reply : Reply} {t : State} (h : s.ready 0x24 q) (hr : runDropFlow (requestOf 0x24 q) s = (reply, t)) :
      exec (.dropFlow q) s = .next (t.served 0x24 q reply) := exec_of_run rfl h (run_dropFlow.trans hr)
  refine ⟨fun hf => ?_, fun f hf hst => ?_, fun f hf hst => ?_⟩
  · have no (f : Flow) (hx : s.flow i = some f) : f.state ≠ .disabled := by simp [hf] at hx
    exact ⟨fun h => exec_arm h (runArmFlow_flowState hh hw ho no),
      fun h => exec_disarm h (runDisarmFlow_flowState hh hw ho hf),
      fun h => exec_drop h (runDropFlow_flowState hh hw ho no)⟩
  · have running (g : Flow) (hg : s.flow i = some g) : g.state ≠ .disabled := by
      rw [hf] at hg
      exact Option.some.inj hg ▸ hst
    exact ⟨fun h => exec_arm h (runArmFlow_flowState hh hw ho running),
      fun h => exec_drop h (runDropFlow_flowState hh hw ho running),
      fun h => exec_disarm h (runDisarmFlow_running hh hw ho hf hst)⟩
  · exact ⟨fun h => exec_arm h (runArmFlow_ok hh hw ho hf hst),
      fun h => exec_disarm h (runDisarmFlow_disabled hh hw ho hf hst),
      fun h => exec_drop h (runDropFlow_ok hh hw ho hf hst)⟩

/-- Settles O52: the checks of R47, then the part read, and the counters cleared where the option says so. -/
theorem readFlowAnswers : Obligations.ReadFlowAnswers := by
  intro q s i part k h ho
  have exec_eq {reply : Reply} {t : State} (hh : k ≠ 1 ∨ s.heldBy q)
      (hr : readFlowPart i part (boolOfByte k) s = (reply, t)) :
      exec (.readFlow q) s = .next (t.served 0x25 q reply) :=
    exec_of_run rfl h (run_readFlow.trans ((runReadFlow_passes ho hh).trans hr))
  have exec_read {reply : Reply} {t : State} (hk : k = 0) (hr : readFlowPart i part (some false) s = (reply, t)) :
      exec (.readFlow q) s = .next (t.served 0x25 q reply) :=
    exec_eq (.inl (by rw [hk]; decide)) (by rw [hk]; exact hr)
  have exec_clear {reply : Reply} {t : State} (hk : k = 1) (hh : s.heldBy q)
      (hr : readFlowPart i part (some true) s = (reply, t)) :
      exec (.readFlow q) s = .next (t.served 0x25 q reply) :=
    exec_eq (.inr hh) (by rw [hk]; exact hr)
  refine ⟨fun hk hh => ?_, fun hh hi => exec_eq hh (readFlowPart_bad_index hi), fun hh hi hv => ?_, fun j hi hp =>
    ⟨fun hf => ⟨fun hk => exec_read hk (readFlowPart_invalid hi hp hf false),
      fun hk hh => exec_clear hk hh (readFlowPart_invalid hi hp hf true)⟩, fun f hf => ?_⟩⟩
  · have cleared : q.operands[2]? = some 1 := by
      rw [ho, hk]
      rfl
    exact exec_of_refused rfl h (run_clear_not_owner (x := .readFlow) rfl cleared hh)
  · exact exec_eq hh (readFlowPart_bad_value hi (hv.symm.imp_left boolOfByte_eq_none))
  · intro c content reply
    have content_eq : f.part part.toNat = content := by
      rcases byte_le_two hp with rfl | rfl | rfl
      · cases hx : f.schedule <;> cases hy : f.lastSeq <;> simp only [content, Flow.part, hx, hy] <;> rfl
      · exact f.part_one
      · exact f.part_two
    have valid := fun clear => readFlowPart_valid (s := s) hi hp hf clear
    rw [content_eq] at valid
    exact ⟨fun hk => exec_read hk (valid false), fun hk hh => exec_clear hk hh (valid true)⟩

end Sys2Proof.Proofs
end

section
/-! SUPPORT. The commands on the attention list (R110 to R114, R123 to R126): what each check answers, what each command
does to list and reporter, and the statements. -/
namespace Sys2Proof.Machine

variable {s : State} {q : Req} {code : Byte}

/-! ## READ_ATTENTION (R110) -/

theorem run_readAttention : run (requestOf 0x30 q) s = runReadAttention (requestOf 0x30 q) s := rfl

section
variable {a n : Byte} (ho : q.operands = [a, n])
include ho

theorem runReadAttention_bad_index (ha : 31 < a.toNat) :
    runReadAttention (requestOf code q) s = refuse .badIndex s := by
  simp only [runReadAttention, operands_requestOf, ho, if_pos ha]

theorem runReadAttention_bad_value (ha : a.toNat ≤ 31) (hn : n.toNat = 0 ∨ 3 < n.toNat) :
    runReadAttention (requestOf code q) s = refuse .badValue s := by
  simp only [runReadAttention, operands_requestOf, ho, if_neg (Nat.not_lt.mpr ha), if_pos hn]

theorem runReadAttention_ok (ha : a.toNat ≤ 31) (h1 : 1 ≤ n.toNat) (h3 : n.toNat ≤ 3) :
    let window := (s.attention.records.drop a.toNat).take n.toNat
    runReadAttention (requestOf code q) s
      = (.answer .ok (byte s.attention.records.length :: be16 s.attention.lost
          ++ [s.reporter.state.code, boolByte s.alertCondition, a, byte window.length]
          ++ window.flatMap AttentionRecord.bytes), s) := by
  have hn : ¬(n.toNat = 0 ∨ 3 < n.toNat) := by omega
  simp only [runReadAttention, operands_requestOf, ho, if_neg (Nat.not_lt.mpr ha), if_neg hn, answerOk,
    ← List.flatMap_def, List.singleton_append]

end

theorem AttentionRecord.bytes_eq (r : AttentionRecord) : r.bytes =
    be16 r.id ++ [r.cause.code, r.object, byte r.rank, byte r.count] ++ be32 r.last
      ++ [byte (r.reportedCount.getD 0)] ++ be32 r.first ++ [if r.state = .reported then 1 else 0] := by
  have state : r.state.code = if r.state = .reported then 1 else 0 := by cases r.state <;> rfl
  rw [AttentionRecord.bytes, state]
  rfl

/-! ## One item of an ACK_ATTENTION (R124) -/

section
variable {r : AttentionRecord} {c : Nat}

theorem AttentionRecord.ack_zero (r : AttentionRecord) : r.ack 0 = ⟨.badValue, 0, some r⟩ := if_pos (.inl rfl)

theorem AttentionRecord.ack_over (h : r.count < c) : r.ack c = ⟨.badValue, 0, some r⟩ := if_pos (.inr h)

/-- A record whose count stopped at 255 and that changed since keeps one event (R124). -/
theorem AttentionRecord.ack_saturated (h : c = r.count) (hs : r.count = 255 ∧ r.state = .unreported) :
    r.ack c = ⟨.ok, 1, some { r with count := 1 }⟩ := by
  rw [AttentionRecord.ack, if_neg (by omega), if_pos h, if_pos hs]

section
variable (hc : c ≠ 0)
include hc

theorem AttentionRecord.ack_removes (h : c = r.count) (hs : ¬(r.count = 255 ∧ r.state = .unreported)) :
    r.ack c = ⟨.ok, 0, none⟩ := by
  rw [AttentionRecord.ack, if_neg (by omega), if_pos h, if_neg hs]

theorem AttentionRecord.ack_reduces (h : c < r.count) :
    r.ack c = ⟨.ok, r.count - c, some { r with count := r.count - c, state := .unreported }⟩ := by
  rw [AttentionRecord.ack, if_neg (by omega), if_neg (by omega)]

end

/-- The record of an id in a list in order. -/
theorem Attention.ok.find?_id {a : Attention} (ha : a.ok) {before after : List AttentionRecord}
    (heq : a.records = before ++ r :: after) : (∀ x ∈ before, x.id ≠ r.id)
      ∧ a.records.find? (fun x => decide (x.id = r.id)) = some r := by
  obtain ⟨-, -, -, hids, -⟩ := ha
  rw [heq] at hids
  have distinct : ∀ x ∈ before, x.id ≠ r.id := fun x hx => by
    obtain ⟨-, -, apart⟩ := List.pairwise_append.mp hids
    exact apart x hx r List.mem_cons_self
  exact ⟨distinct, heq ▸ find?_id_append distinct rfl⟩

theorem State.ackItem_absent (h : ∀ r ∈ s.attention.records, r.id ≠ c) (n : Nat) :
    s.ackItem c n = (be16 c ++ [if n = 0 then Status.badValue.code else Status.unknownId.code, 0], s) := by
  have none : s.attention.records.find? (fun r => decide (r.id = c)) = none :=
    List.find?_eq_none.mpr fun r hr hid => h r hr (of_decide_eq_true hid)
  simp only [State.ackItem, none]

section
variable {n : Nat} (hf : s.attention.records.find? (fun r => decide (r.id = n)) = some r)
include hf

theorem State.ackItem_refused {x : Option AttentionRecord} (h : r.ack c = ⟨.badValue, 0, x⟩) :
    s.ackItem n c = (be16 n ++ [0x04, 0], s) := by
  simp only [State.ackItem, hf, h]
  rfl

/-- An item that counts: its record replaced or removed, and its mark set. -/
theorem State.ackItem_ok {k : Nat} {x : Option AttentionRecord} (h : r.ack c = ⟨.ok, k, x⟩) :
    s.ackItem n c = (be16 n ++ [0x00, byte k],
      (s.setAttention { s.attention with records := replaceRecord n x s.attention.records }).setReporter
        { s.reporter with outstanding := markAcked n s.reporter.outstanding }) := by
  simp only [State.ackItem, hf, h]
  rfl

end
end

/-! ## What follows the items (R121, R126) -/

theorem State.reportComplete_iff : s.reportComplete = true ↔
    ∀ i ∈ s.reporter.outstanding, i.acked = true ∨ ∀ r ∈ s.attention.records, r.id ≠ i.id := by
  simp [State.reportComplete]

theorem State.afterAck_idle (h : s.reporter.state = .idle) : s.afterAck = s.pollReporter := by
  simp only [State.afterAck, h]

theorem State.afterAck_complete (h : s.reporter.state = .waitAck) (hc : s.reportComplete = true) :
    s.afterAck = (s.setReporter s.reporter.toIdle).pollReporter := by
  simp only [State.afterAck, h, hc, if_true]

theorem State.afterAck_waiting (h : s.reporter.state = .waitAck) (hc : ¬s.reportComplete = true) : s.afterAck = s := by
  simp only [State.afterAck, h, if_neg hc]

theorem State.afterAck_stalled (h : s.reporter.state = .stalled) : s.afterAck = s.abandonReport.pollReporter := by
  simp only [State.afterAck, h, State.leaveStall_stalled h]

/-! ## ACK_ATTENTION (R123) -/

theorem run_ackAttention : run (requestOf 0x31 q) s = runAckAttention (requestOf 0x31 q) s := rfl

theorem State.mayAck_iff :
    s.mayAck (requestOf code q) = true ↔ s.heldBy q ∨ s.params.reportAddr = some q.requester := by
  rw [State.mayAck, Bool.or_eq_true, State.holds_requestOf, decide_eq_true_iff]
  rfl

theorem runAckAttention_not_owner (h : ¬(s.heldBy q ∨ s.params.reportAddr = some q.requester)) :
    runAckAttention (requestOf code q) s = refuse .notOwner s :=
  if_neg (mt State.mayAck_iff.mp h)

section
variable (h : s.heldBy q ∨ s.params.reportAddr = some q.requester)
include h

theorem runAckAttention_short (hl : q.operands.length < 3) :
    runAckAttention (requestOf code q) s = refuse .badLength s := by
  refine (if_pos (State.mayAck_iff.mpr h)).trans ?_
  split
  · next ho =>
    have length := congrArg List.length (operands_requestOf code q ▸ ho)
    simp only [List.length_cons] at length
    omega
  · rfl

section
variable {l1 l0 n : Byte} {items : List Byte} (ho : q.operands = l1 :: l0 :: n :: items)
include ho

theorem runAckAttention_bad_length (hl : items.length ≠ 3 * n.toNat) :
    runAckAttention (requestOf code q) s = refuse .badLength s := by
  simp only [runAckAttention, if_pos (State.mayAck_iff.mpr h), operands_requestOf, ho, if_pos hl]

section
variable (hl : items.length = 3 * n.toNat)
include hl

theorem runAckAttention_bad_value (hn : 8 < n.toNat) :
    runAckAttention (requestOf code q) s = refuse .badValue s := by
  simp only [runAckAttention, if_pos (State.mayAck_iff.mpr h), operands_requestOf, ho, if_neg (not_not.mpr hl), if_pos hn]

theorem runAckAttention_ok (hn : n.toNat ≤ 8) :
    runAckAttention (requestOf code q) s
      = ackList (requestOf code q) (nat16 l1 l0) n.toNat items s := by
  simp only [runAckAttention, if_pos (State.mayAck_iff.mpr h), operands_requestOf, ho, if_neg (not_not.mpr hl),
    if_neg (Nat.not_lt.mpr hn)]

end
end
end

/-- The items, the lost count, and what follows; the lease starts for the holder alone (R123 to R126). -/
theorem ackList_eq (lost : Nat) (n : Byte) (items : List Byte) [Decidable (s.heldBy q)] :
    let t := ((s.ackItems items).2.ackLost lost).afterAck
    ackList (requestOf code q) lost n.toNat items s
      = (.answer .ok (n :: (s.ackItems items).1 ++ be16 t.attention.lost ++ [t.reporter.state.code]),
        if s.heldBy q then t.leased else t) := by
  intro t
  have agent : t.agent = s.agent := s.ackAll_agent items lost
  have count : byte n.toNat = n := BitVec.ofNat_toNat 8 n
  have holds : t.holds (requestOf code q) = true ↔ s.heldBy q := by
    rw [State.holds_requestOf, State.heldBy, agent]
  have executes : ackList (requestOf code q) lost n.toNat items s
      = if t.holds (requestOf code q) then
          executed (byte n.toNat :: (s.ackItems items).1 ++ be16 t.attention.lost ++ [t.reporter.state.code]) t
        else answerOk (byte n.toNat :: (s.ackItems items).1 ++ be16 t.attention.lost ++ [t.reporter.state.code]) t := rfl
  rw [executes, count]
  by_cases hh : s.heldBy q
  · rw [if_pos hh, if_pos (holds.mpr hh), executed_eq_leased]
  · rw [if_neg hh, if_neg (mt holds.mp hh), answerOk]

/-! ## CLEAR_ATTENTION, SET_CAUSE, FORCE_ATTENTION (R112 to R114) -/

theorem run_clearAttention : run (requestOf 0x32 q) s = runClearAttention (requestOf 0x32 q) s := rfl

theorem run_setCause : run (requestOf 0x33 q) s = runSetCause (requestOf 0x33 q) s := rfl

theorem run_forceAttention : run (requestOf 0x34 q) s = runForceAttention (requestOf 0x34 q) s := rfl

@[simp] theorem Cause.ofCode_code (c : Cause) : Cause.ofCode c.code = some c := by
  cases c <;> rfl

theorem Cause.ofCode_eq_none {x : Byte} (h : ∀ c : Cause, c.code ≠ x) : Cause.ofCode x = none :=
  List.find?_eq_none.mpr fun c _ hc => h c (of_decide_eq_true hc)

theorem Cause.index_inj {c d : Cause} (h : c.index = d.index) : c = d := by
  revert h
  cases c <;> cases d <;> decide

section
variable (h : s.heldBy q)
include h

theorem runClearAttention_ok (ho : q.operands = []) :
    runClearAttention (requestOf code q) s
      = (.answer .ok (byte s.attention.records.length :: be16 s.attention.lost),
        ((s.setAttention { s.attention with records := [], lost := 0 }).setReporter s.reporter.toIdle).leased) := by
  rw [runClearAttention, owned_of_heldBy h, sized_of_length_eq (List.length_eq_zero_iff.2 ho), executed_eq_leased]

section
variable {cause mask rank : Byte} (ho : q.operands = [cause, mask, rank])
include ho

theorem runSetCause_bad_value (hv : (∀ c : Cause, c.code ≠ cause) ∨ 1 < mask.toNat ∨ 7 < rank.toNat) :
    runSetCause (requestOf code q) s = refuse .badValue s := by
  rw [runSetCause, owned_of_heldBy h, operands_requestOf, ho]
  rcases hv with hc | hm | hr
  · simp only [Cause.ofCode_eq_none hc]
  · simp only [boolOfByte_eq_none hm]
    split
    · next hnone => cases hnone
    · rfl
  · simp only [if_pos hr]
    split <;> rfl

theorem runSetCause_ok {c : Cause} (hc : c.code = cause) {m : Bool} (hm : boolOfByte mask = some m)
    (hr : rank.toNat ≤ 7) :
    runSetCause (requestOf code q) s
      = (.answer .ok [cause, boolByte (s.attention.setting c).masked, byte (s.attention.setting c).rank, mask, rank],
        (s.setAttention { s.attention with causes := s.attention.causes.set c.index ⟨m, rank.toNat⟩ }).leased) := by
  subst hc
  simp only [runSetCause, owned_of_heldBy h, operands_requestOf, ho, Cause.ofCode_code, hm, if_neg (Nat.not_lt.mpr hr),
    executed_eq_leased]

end

section
variable {object rank : Byte} (ho : q.operands = [object, rank])
include ho

theorem runForceAttention_bad_value (hr : 7 < rank.toNat) :
    runForceAttention (requestOf code q) s = refuse .badValue s := by
  simp only [runForceAttention, owned_of_heldBy h, operands_requestOf, ho, if_pos hr]

theorem runForceAttention_ok (hr : rank.toNat ≤ 7) :
    let e : AttentionEvent := ⟨.testForced, object, s.time, none, some rank.toNat⟩
    runForceAttention (requestOf code q) s
      = (.answer .ok (s.attention.take e).1.bytes,
        (((s.raise (.announce .testForced object)).setAttention (s.attention.take e).2).pollReporter).leased) := by
  simp only [runForceAttention, owned_of_heldBy h, operands_requestOf, ho, if_neg (Nat.not_lt.mpr hr)]
  rfl

end
end

end Sys2Proof.Machine

/-! ## The statements -/

namespace Sys2Proof.Proofs

open Sys2Proof Sys2Proof.Machine

/-- Settles O53: the checks of R110 in their order, then the summary and the window of R177. -/
theorem readAttentionAnswers : Obligations.ReadAttentionAnswers := by
  intro q s a n h ho
  have exec_eq {reply : Reply} (hr : runReadAttention (requestOf 0x30 q) s = (reply, s)) :
      exec (.readAttention q) s = .next (s.served 0x30 q reply) := exec_of_run rfl h (run_readAttention.trans hr)
  refine ⟨fun ha => exec_eq (runReadAttention_bad_index ho ha), fun ha hn =>
    exec_eq (runReadAttention_bad_value ho ha (hn.imp_left (congrArg BitVec.toNat))), fun ha h1 h3 => ?_⟩
  intro window state
  have state_eq : s.reporter.state.code = state := by
    cases hr : s.reporter.state <;> simp only [state, hr] <;> rfl
  have answer := runReadAttention_ok (s := s) (code := 0x30) ho ha h1 h3
  rw [state_eq, funext AttentionRecord.bytes_eq] at answer
  exact exec_eq answer

/-- Settles O54: one item, the items in turn, what follows them, and the command. -/
theorem ackAttentionAcknowledges : Obligations.AckAttentionAcknowledges := by
  refine ⟨fun n c s ha => ?item, fun s => ⟨rfl, fun h l c rest => rfl, ?after⟩, fun q s h => ?command⟩
  case item =>
    intro mark put
    refine ⟨fun hc => ?_, fun hc hno => ?_, fun before r after hc heq hid => ?_⟩
    · subst hc
      by_cases hr : ∃ r ∈ s.attention.records, r.id = n
      · obtain ⟨r, hr, rfl⟩ := hr
        obtain ⟨before, after, heq⟩ := List.append_of_mem hr
        exact State.ackItem_refused (ha.find?_id heq).2 r.ack_zero
      · exact State.ackItem_absent (fun r hr' hid => hr ⟨r, hr', hid⟩) 0
    · rw [State.ackItem_absent hno, if_neg hc]
      rfl
    · subst hid
      obtain ⟨hb, hf⟩ := ha.find?_id heq
      have replaced (x : Option AttentionRecord) :
          replaceRecord r.id x s.attention.records = before ++ (x.toList ++ after) := by
        rw [heq, replaceRecord_append hb rfl, List.append_assoc]
      refine ⟨fun hlt => State.ackItem_refused hf (AttentionRecord.ack_over hlt), fun he hcount hst => ?_,
        fun he hs => ?_, fun hlt => ?_⟩
      · rw [State.ackItem_ok hf (AttentionRecord.ack_saturated he ⟨hcount, hst⟩), replaced]
        rfl
      · rw [State.ackItem_ok hf (AttentionRecord.ack_removes hc he hs), replaced]
        rfl
      · rw [State.ackItem_ok hf (AttentionRecord.ack_reduces hc hlt), replaced]
        rfl
  case after =>
    intro complete ids ended
    have complete_iff : complete ↔ s.reportComplete = true := State.reportComplete_iff.symm
    exact ⟨State.afterAck_idle, fun h hc => State.afterAck_complete h (complete_iff.mp hc),
      fun h hc => State.afterAck_waiting h (mt complete_iff.mpr hc), State.afterAck_stalled⟩
  case command =>
    intro allowed
    have exec_eq {reply : Reply} {t : State} (hr : runAckAttention (requestOf 0x31 q) s = (reply, t)) :
        exec (.ackAttention q) s = .next (t.served 0x31 q reply) := exec_of_run rfl h (run_ackAttention.trans hr)
    refine ⟨fun hn => exec_eq (runAckAttention_not_owner hn), fun hy hl => exec_eq (runAckAttention_short hy hl),
      fun l1 l0 n items hy ho => ⟨fun hl => exec_eq (runAckAttention_bad_length hy ho hl),
        fun hl hn => exec_eq (runAckAttention_bad_value hy ho hl hn), fun hl hn => ?_⟩⟩
    exact exec_eq ((runAckAttention_ok hy ho hl hn).trans (ackList_eq _ n items))

/-- Settles O55: the list cleared, a cause set, and an event forced. -/
theorem clearSetForceAttention : Obligations.ClearSetForceAttention := by
  intro q s hh
  refine ⟨fun h ho => exec_of_run rfl h (run_clearAttention.trans (runClearAttention_ok hh ho)),
    fun code mask rank h ho => ?_, fun object rank h ho => ?_⟩
  · have exec_eq {reply : Reply} {t : State} (hr : runSetCause (requestOf 0x33 q) s = (reply, t)) :
        exec (.setCause q) s = .next (t.served 0x33 q reply) := exec_of_run rfl h (run_setCause.trans hr)
    refine ⟨fun hv => exec_eq (runSetCause_bad_value hh ho hv), fun c hc hm hr =>
      ⟨s.attention.causes.set c.index ⟨decide (mask = 1), rank.toNat⟩, fun d => ?_, ?_⟩⟩
    · rw [Fin.getElem_fin, Vector.getElem_set]
      by_cases hd : d = c
      · simp [hd]
      · have apart : c.index.val ≠ d.index.val := fun hi => hd (Cause.index_inj (Fin.ext hi)).symm
        rw [if_neg apart, if_neg hd]
        rfl
    · have masked : boolOfByte mask = some (decide (mask = 1)) := by
        rcases byte_le_one hm with rfl | rfl <;> rfl
      exact exec_eq (runSetCause_ok hh ho hc masked hr)
  · have exec_eq {reply : Reply} {t : State} (hr : runForceAttention (requestOf 0x34 q) s = (reply, t)) :
        exec (.forceAttention q) s = .next (t.served 0x34 q reply) := exec_of_run rfl h (run_forceAttention.trans hr)
    refine ⟨fun hr => exec_eq (runForceAttention_bad_value hh ho hr), fun hr => ?_⟩
    intro e results
    have results_eq : (s.attention.take e).1.bytes = results := by
      cases ht : (s.attention.take e).1 <;> simp only [results, ht] <;> rfl
    rw [← results_eq]
    exact exec_eq (runForceAttention_ok hh ho hr)

end Sys2Proof.Proofs
end

section
/-! SUPPORT. The commands on capture rings (R139 to R146): the ring number, what each check answers, what each command makes
of a ring, the records that READ_RING returns, and the statements. -/
namespace Sys2Proof.Machine

variable {s : State} {q : Req} {code : Byte}

/-! ## The ring number (R139) -/

section
variable {b : Byte} {f : Fin 8 → Reply × State}

theorem onRing_bad_index (h : 7 < b.toNat) : onRing b s f = refuse .badIndex s := dif_neg (Nat.not_lt.mpr h)

theorem onRing_byte (k : Fin 8) : onRing (byte k.val) s f = f k := by
  have value : (byte k.val).toNat = k.val := toNat_byte_fin (by decide) k
  have index : (⟨(byte k.val).toNat, by rw [value]; exact k.isLt⟩ : Fin 8) = k := Fin.ext value
  rw [onRing, dif_pos (by rw [value]; exact k.isLt), index]

end

/-- The commands that write one ring. -/
def Command.writesRing : Command → Bool
  | .defineRing | .startRing | .stopRing | .triggerRing | .discardRing => true
  | _ => false

/-- With the claim and the length right, such a command goes on to its ring. -/
theorem run_onRing {x : Command} {i : Byte} {rest : List Byte} (hx : x.writesRing = true) (h : s.heldBy q)
    (ho : q.operands = i :: rest) (hn : x.operandCount = some (rest.length + 1)) :
    ∃ f, run (requestOf x.code q) s = onRing i s f := by
  cases x
  case defineRing =>
    have hl : q.operands.length = 16 := by
      rw [ho]
      exact (Option.some.inj hn).symm
    have first : byteAt (requestOf Command.defineRing.code q).operands 0 = i := by
      rw [operands_requestOf, ho]
      rfl
    exact ⟨_, (owned_of_heldBy h _).trans ((sized_of_length_eq hl _).trans (congrArg (fun b => onRing b s _) first))⟩
  case startRing | stopRing | triggerRing | discardRing =>
    obtain rfl : rest = [] := List.length_eq_zero_iff.mp (Nat.succ.inj (Option.some.inj hn).symm)
    cases q
    cases ho
    exact ⟨_, owned_of_heldBy h _⟩
  all_goals cases hx

/-- Their codes and operand bytes after the number. -/
theorem Command.exists_of_ringCode : ∀ c ∈ ([(0x40, 15), (0x41, 0), (0x42, 0), (0x43, 0), (0x45, 0)] : List (Byte × Nat)),
    ∃ x ∈ Command.all, x.code = c.1 ∧ x.writesRing = true ∧ x.operandCount = some (c.2 + 1) := by decide

/-! ## DEFINE_RING (R140) -/

/-- DEFINE_RING after the check of the ring number. -/
def defineRingAt (k : Fin 8) (bytes : List Byte) (s : State) : Reply × State :=
  if (s.ring k).any Ring.recording then refuse .ringState s
  else match RingDef.ofBytes bytes with
    | none => refuse .badValue s
    | some d =>
      if s.ringOverlaps k d then refuse .ringOverlap s
      else executed (byte k.val :: be16 d.base ++ be16 d.size) (s.setRing k (some (.defined d)))

theorem run_defineRing : run (requestOf 0x40 q) s = runDefineRing (requestOf 0x40 q) s := rfl

/-- Two rings with slots overlap exactly where they share one. -/
theorem RingDef.overlaps_iff {d e : RingDef} (hd : 0 < d.size) (he : 0 < e.size) : d.overlaps e = true ↔
    ∃ slot, d.base ≤ slot ∧ slot < d.base + d.size ∧ e.base ≤ slot ∧ slot < e.base + e.size := by
  rw [RingDef.overlaps, Bool.and_eq_true, decide_eq_true_iff, decide_eq_true_iff]
  constructor
  · rintro ⟨h1, h2⟩
    exact ⟨max d.base e.base, by omega, by omega, by omega, by omega⟩
  · rintro ⟨slot, h1, h2, h3, h4⟩
    omega

theorem State.recording_iff {k : Fin 8} : (s.ring k).any Ring.recording = true ↔
    ∃ r, s.ring k = some r ∧ (r.state = .running ∨ r.state = .postfill) := by
  simp [Option.any_eq_true, Ring.recording_iff]

section
variable {k : Fin 8} {bytes : List Byte} (h : s.heldBy q) (ho : q.operands = byte k.val :: bytes)
  (hl : bytes.length = 15)
include h ho hl

/-- The claim, the length and the ring number are no reason to refuse. -/
theorem runDefineRing_eq : runDefineRing (requestOf code q) s = defineRingAt k bytes s := by
  have length : q.operands.length = 16 := by rw [ho, List.length_cons, hl]
  have first : byteAt q.operands 0 = byte k.val := by rw [ho]; rfl
  have rest : q.operands.drop 1 = bytes := by rw [ho]; rfl
  rw [runDefineRing, owned_of_heldBy h, sized_of_length_eq length, operands_requestOf, first, onRing_byte, rest]
  rfl

end

section
variable {k : Fin 8} {bytes : List Byte}

theorem defineRingAt_recording (h : (s.ring k).any Ring.recording = true) :
    defineRingAt k bytes s = refuse .ringState s := if_pos h

section
variable (h : ¬(s.ring k).any Ring.recording = true)
include h

theorem defineRingAt_unreadable (hd : RingDef.ofBytes bytes = none) : defineRingAt k bytes s = refuse .badValue s := by
  rw [defineRingAt, if_neg h, hd]

section
variable {d : RingDef} (hd : RingDef.ofBytes bytes = some d)
include hd

theorem defineRingAt_overlap (hm : s.ringOverlaps k d = true) : defineRingAt k bytes s = refuse .ringOverlap s := by
  simp only [defineRingAt, if_neg h, hd, if_pos hm]

theorem defineRingAt_ok (hm : ¬s.ringOverlaps k d = true) :
    defineRingAt k bytes s = (.answer .ok (byte k.val :: be16 d.base ++ be16 d.size),
      (s.setRing k (some ⟨d, .idle, 0, 0, none⟩)).leased) := by
  simp only [defineRingAt, if_neg h, hd, if_neg hm]
  rfl

end
end
end

/-! ## START_RING, STOP_RING, TRIGGER_RING, DISCARD_RING (R141 to R144) -/

theorem run_startRing : run (requestOf 0x41 q) s = runStartRing (requestOf 0x41 q) s := rfl

theorem run_stopRing : run (requestOf 0x42 q) s = runStopRing (requestOf 0x42 q) s := rfl

theorem run_triggerRing : run (requestOf 0x43 q) s = runTriggerRing (requestOf 0x43 q) s := rfl

theorem run_discardRing : run (requestOf 0x45 q) s = runDiscardRing (requestOf 0x45 q) s := rfl

section
variable {k : Fin 8} (h : s.heldBy q) (ho : q.operands = [byte k.val])
include h ho

theorem runStartRing_undefined (hr : s.ring k = none) : runStartRing (requestOf code q) s = refuse .ringState s := by
  simp only [runStartRing, owned_of_heldBy h, operands_requestOf, ho, onRing_byte, hr]

theorem runStopRing_undefined (hr : s.ring k = none) : runStopRing (requestOf code q) s = refuse .ringState s := by
  simp only [runStopRing, owned_of_heldBy h, operands_requestOf, ho, onRing_byte, hr]

theorem runTriggerRing_undefined (hr : s.ring k = none) : runTriggerRing (requestOf code q) s = refuse .ringState s := by
  simp only [runTriggerRing, owned_of_heldBy h, operands_requestOf, ho, onRing_byte, hr]

theorem runDiscardRing_ok : runDiscardRing (requestOf code q) s
    = (.answer .ok [byte k.val, ringStateByte (s.ring k)], (s.setRing k none).leased) := by
  simp only [runDiscardRing, owned_of_heldBy h, operands_requestOf, ho, onRing_byte, executed_eq_leased]

section
variable {r : Ring} (hr : s.ring k = some r)
include hr

theorem runStartRing_recording (hrec : r.recording = true) :
    runStartRing (requestOf code q) s = refuse .ringState s := by
  simp only [runStartRing, owned_of_heldBy h, operands_requestOf, ho, onRing_byte, hr, if_pos hrec]

theorem runStartRing_ok (hrec : ¬r.recording = true) :
    runStartRing (requestOf code q) s
      = (.answer .ok [byte k.val, 1], (s.setRing k (some ⟨r.defn, .running, 0, 0, none⟩)).leased) := by
  simp only [runStartRing, owned_of_heldBy h, operands_requestOf, ho, onRing_byte, hr, if_neg hrec]
  rfl

theorem runStopRing_ok (hrec : r.recording = true) :
    runStopRing (requestOf code q) s
      = (.answer .ok ([byte k.val, r.state.code] ++ be32 r.next ++ be16 r.held),
        (s.setRing k (some { r with state := .frozen, remaining := none })).leased) := by
  simp only [runStopRing, owned_of_heldBy h, operands_requestOf, ho, onRing_byte, hr, if_pos hrec]
  rfl

theorem runStopRing_not_recording (hrec : ¬r.recording = true) :
    runStopRing (requestOf code q) s = refuse .ringState s := by
  simp only [runStopRing, owned_of_heldBy h, operands_requestOf, ho, onRing_byte, hr, if_neg hrec]

theorem runTriggerRing_eq : runTriggerRing (requestOf code q) s
    = (.answer .ok [byte k.val, r.state.code, r.trigger.state.code],
      (if r.state = .running then s.putRing k r.trigger else s).leased) := by
  simp only [runTriggerRing, owned_of_heldBy h, operands_requestOf, ho, onRing_byte, hr, executed_eq_leased]

theorem runTriggerRing_unchanged (hst : r.state ≠ .running) :
    runTriggerRing (requestOf code q) s = (.answer .ok [byte k.val, r.state.code, r.state.code], s.leased) := by
  rw [runTriggerRing_eq h ho hr, if_neg hst, Ring.trigger_not_running hst]

section
variable (hst : r.state = .running)
include hst

theorem runTriggerRing_postfill (hp : r.defn.postCount ≠ 0) :
    runTriggerRing (requestOf code q) s = (.answer .ok [byte k.val, 1, 2],
      (s.setRing k (some { r with state := .postfill, remaining := some r.defn.postCount })).leased) := by
  have put : s.putRing k { r with state := .postfill, remaining := some r.defn.postCount }
      = s.setRing k (some { r with state := .postfill, remaining := some r.defn.postCount }) :=
    State.putRing_not_frozen nofun
  have state_code : r.state.code = 1 := congrArg RingState.code hst
  rw [runTriggerRing_eq h ho hr, if_pos hst, Ring.trigger_postfill hst hp, put, state_code]
  rfl

theorem runTriggerRing_frozen (hp : r.defn.postCount = 0) :
    runTriggerRing (requestOf code q) s = (.answer .ok [byte k.val, 1, 3],
      ((s.setRing k (some { r with state := .frozen, remaining := none })).raiseEvent .ringFrozen
        (byte k.val)).leased) := by
  rw [runTriggerRing_eq h ho hr, if_pos hst, Ring.trigger_frozen hst hp, State.putRing_frozen rfl, hst]
  rfl

end
end
end

/-! ## READ_RING (R145, R146, R178) -/

theorem run_readRing : run (requestOf 0x44 q) s = runReadRing (requestOf 0x44 q) s := rfl

section
variable {k a b c d : Byte} (ho : q.operands = [k, a, b, c, d])
include ho

theorem runReadRing_bad_index (hk : 7 < k.toNat) : runReadRing (requestOf code q) s = refuse .badIndex s := by
  simp only [runReadRing, operands_requestOf, ho, onRing_bad_index hk]

section
variable {j : Fin 8} (hk : k = byte j.val)
include hk

theorem runReadRing_undefined (hr : s.ring j = none) : runReadRing (requestOf code q) s = refuse .ringState s := by
  simp only [runReadRing, operands_requestOf, ho, hk, onRing_byte, hr]

theorem runReadRing_ok {r : Ring} (hr : s.ring j = some r) :
    runReadRing (requestOf code q) s = (.answer .ok (s.readRing j r (word32 a b c d)), s) := by
  simp only [runReadRing, operands_requestOf, ho, hk, onRing_byte, hr, answerOk]

end
end

/-- A payload padded with 0 to the capture length. -/
theorem take_append_replicate (l : List Byte) (n : Nat) :
    (l ++ List.replicate n 0).take n = l.take n ++ List.replicate (n - l.length) 0 := by
  rw [List.take_append, List.take_replicate, Nat.min_eq_left (Nat.sub_le _ _)]

/-- The results of a read that returns `n` records from `first` on. -/
def State.ringResults (s : State) (k : Fin 8) (r : Ring) (overrun : Byte) (first : BitVec 32) (n : Nat) : List Byte :=
  [byte k.val, r.state.code ||| overrun] ++ be32 r.oldest ++ be32 r.next ++ [byte n]
  ++ (List.range n).flatMap (fun i => s.recordBytes r (first + BitVec.ofNat 32 i))

section
variable {k : Fin 8} {r : Ring} {start : BitVec 32}

/-- A start among the records held. -/
theorem State.readRing_held (h : (start - r.oldest).toNat < r.held) :
    s.readRing k r start
      = s.ringResults k r 0 start (min r.perResponse (r.held - (start - r.oldest).toNat)) := by
  rw [State.readRing, Ring.readFrom, if_pos h]
  rfl

section
variable (h : r.held ≤ (start - r.oldest).toNat)
include h

/-- A start from the next record on. -/
theorem State.readRing_ahead (hn : (start - r.next).toNat < 2 ^ 31) :
    s.readRing k r start = s.ringResults k r 0 0 0 := by
  rw [State.readRing, Ring.readFrom, if_neg (Nat.not_lt.mpr h), if_pos hn]
  rfl

/-- A start before the oldest record: OVERRUN. -/
theorem State.readRing_overrun (hn : 2 ^ 31 ≤ (start - r.next).toNat) :
    s.readRing k r start = s.ringResults k r 0x80 r.oldest (min r.perResponse r.held) := by
  have all : r.readCount r.oldest = min r.perResponse r.held := by
    rw [Ring.readCount, BitVec.sub_self]
    rfl
  rw [State.readRing, Ring.readFrom, if_neg (Nat.not_lt.mpr h), if_neg (Nat.not_lt.mpr hn), ← all]
  rfl

end
end

end Sys2Proof.Machine

/-! ## The statements -/

namespace Sys2Proof.Proofs

open Sys2Proof Sys2Proof.Machine

/-- Settles O56: the ring number, then the checks of R140 in their order. -/
theorem defineRingDefines : Obligations.DefineRingDefines := by
  refine ⟨fun q s i rest c code n hc h hh ho hl hmem hi => ?_, fun q s k bytes h hh ho hl => ?_⟩
  · obtain ⟨x, -, rfl, hx, hn⟩ := Command.exists_of_ringCode (code, n) hmem
    obtain ⟨f, hf⟩ := run_onRing hx hh ho (hl.symm ▸ hn)
    exact exec_of_refused hc h (hf.trans (onRing_bad_index hi))
  intro recording
  have recording_iff : recording ↔ (s.ring k).any Ring.recording = true := State.recording_iff.symm
  have exec_eq {reply : Reply} {t : State} (hr : defineRingAt k bytes s = (reply, t)) :
      exec (.defineRing q) s = .next (t.served 0x40 q reply) :=
    exec_of_run rfl h (run_defineRing.trans ((runDefineRing_eq hh ho hl).trans hr))
  refine ⟨fun hr => exec_eq (defineRingAt_recording (recording_iff.mp hr)),
    fun hr hd => exec_eq (defineRingAt_unreadable (mt recording_iff.mpr hr) hd), fun d hr hd => ?_⟩
  intro meets
  have size : 0 < d.size := by
    have := RingDef.legal_slots (RingDef.legal_of_ofBytes hd)
    omega
  have meets_iff (hs : ∀ j r, s.ring j = some r → 0 < r.defn.size) : meets ↔ s.ringOverlaps k d = true := by
    rw [State.ringOverlaps_iff]
    refine exists_congr fun j => exists_congr fun r => and_congr_right fun _ => and_congr_right fun hr => ?_
    exact (RingDef.overlaps_iff (hs j r hr) size).symm
  exact ⟨fun hs hm => exec_eq (defineRingAt_overlap (mt recording_iff.mpr hr) hd ((meets_iff hs).mp hm)),
    fun hs hm => exec_eq (defineRingAt_ok (mt recording_iff.mpr hr) hd (mt (meets_iff hs).mpr hm))⟩

/-- Settles O57: each of the four commands on an undefined ring and in every state of a defined one. -/
theorem startStopTriggerDiscardRing : Obligations.StartStopTriggerDiscardRing := by
  intro q s k hh ho
  have exec_start {reply : Reply} {t : State} (h : s.ready 0x41 q) (hr : runStartRing (requestOf 0x41 q) s = (reply, t)) :
      exec (.startRing q) s = .next (t.served 0x41 q reply) := exec_of_run rfl h (run_startRing.trans hr)
  have exec_stop {reply : Reply} {t : State} (h : s.ready 0x42 q) (hr : runStopRing (requestOf 0x42 q) s = (reply, t)) :
      exec (.stopRing q) s = .next (t.served 0x42 q reply) := exec_of_run rfl h (run_stopRing.trans hr)
  have exec_trigger {reply : Reply} {t : State} (h : s.ready 0x43 q)
      (hr : runTriggerRing (requestOf 0x43 q) s = (reply, t)) :
      exec (.triggerRing q) s = .next (t.served 0x43 q reply) := exec_of_run rfl h (run_triggerRing.trans hr)
  have exec_discard {state : Byte} (h : s.ready 0x45 q) (hs : ringStateByte (s.ring k) = state) :
      exec (.discardRing q) s = .next ((s.setRing k none).leased.served 0x45 q (.answer .ok [byte k.val, state])) := by
    rw [← hs]
    exact exec_of_run rfl h (run_discardRing.trans (runDiscardRing_ok hh ho))
  refine ⟨fun hr => ⟨fun h => exec_start h (runStartRing_undefined hh ho hr),
    fun h => exec_stop h (runStopRing_undefined hh ho hr), fun h => exec_trigger h (runTriggerRing_undefined hh ho hr),
    fun h => exec_discard h (by rw [hr]; rfl)⟩, fun r hr => ⟨fun hst => ?_, fun hst => ?_, fun h => ⟨?_, ?_, ?_⟩,
    fun h => exec_discard h (by rw [hr]; rfl)⟩⟩
  · have recording : r.recording = true := Ring.recording_iff.mpr hst
    exact ⟨fun h => exec_start h (runStartRing_recording hh ho hr recording),
      fun h => exec_stop h (runStopRing_ok hh ho hr recording)⟩
  · have not_recording : ¬r.recording = true := by
      rw [Ring.recording_iff]
      rcases hst with hst | hst <;> simp [hst]
    exact ⟨fun h => exec_stop h (runStopRing_not_recording hh ho hr not_recording),
      fun h => exec_start h (runStartRing_ok hh ho hr not_recording)⟩
  · exact fun hst => exec_trigger h (runTriggerRing_unchanged hh ho hr hst)
  · exact fun hst hp => exec_trigger h (runTriggerRing_postfill hh ho hr hst hp)
  · exact fun hst hp => exec_trigger h (runTriggerRing_frozen hh ho hr hst hp)

/-- Settles O58: the bytes of a record, then the checks of R145 and the three places where a read may start. -/
theorem readRingAnswers : Obligations.ReadRingAnswers := by
  refine ⟨fun r n c s hread hheader => ?_, fun q s k a b c d h ho => ?_⟩
  · intro ingress verdict flow
    have ingress_eq : byte c.ingress.code = ingress := by
      rcases hi : c.ingress with (_ | _ | _) | _ <;> simp only [ingress, hi] <;> rfl
    have verdict_eq : byte c.verdict.code = verdict := by
      cases hv : c.verdict <;> simp only [verdict, hv] <;> rfl
    have flow_eq : orFF (c.flow.map (fun i => byte i.val)) = flow := by
      cases hf : c.flow <;> simp only [flow, hf] <;> rfl
    have slot : s.capture.memory.read (r.slot n) = some c := hread
    rw [State.recordBytes, slot, Option.getD_some, CaptureRecord.bytes, ingress_eq, verdict_eq, flow_eq,
      List.take_of_length_le (Nat.le_of_eq hheader), take_append_replicate]
    simp only [List.append_assoc]
  have exec_eq {reply : Reply} (hr : runReadRing (requestOf 0x44 q) s = (reply, s)) :
      exec (.readRing q) s = .next (s.served 0x44 q reply) := exec_of_run rfl h (run_readRing.trans hr)
  refine ⟨fun hk => exec_eq (runReadRing_bad_index ho hk), fun j hk =>
    ⟨fun hr => exec_eq (runReadRing_undefined ho hk hr), fun r hr => ?_⟩⟩
  intro start oldest fixed most records
  have results (overrun : Byte) (first : BitVec 32) (n : Nat) :
      s.ringResults j r overrun first n = fixed overrun n ++ records first n := by
    simp only [fixed, records, hk]
    rfl
  have reads {l : List Byte} (hl : s.readRing j r start = l) :
      exec (.readRing q) s = .next (s.served 0x44 q (.answer .ok l)) := hl ▸ exec_eq (runReadRing_ok ho hk hr)
  refine ⟨fun hh => reads ?_, fun hh hn => reads ?_, fun hh hn => reads ?_⟩
  · rw [← results]
    exact State.readRing_held hh
  · rw [State.readRing_ahead hh hn, results]
    exact List.append_nil _
  · rw [← results]
    exact State.readRing_overrun hh hn

end Sys2Proof.Proofs
end

section
/-! SUPPORT. SENSE_CONFIG (R151, R152): the polarity and edges that a byte names, the input after the command by the three
cases of R152, what each check of the command answers, and the statement. -/
namespace Sys2Proof.Machine

variable {s : State} {q : Req} {code : Byte}

/-! ## Polarity and edges -/

@[simp] theorem Polarity.ofByte_code (x : Polarity) : Polarity.ofByte x.code = some x := by
  cases x <;> rfl

@[simp] theorem Edges.ofByte_code (x : Edges) : Edges.ofByte x.code = some x := by
  cases x <;> rfl

theorem Polarity.ofByte_eq_none {x : Byte} (h : 1 < x.toNat) : Polarity.ofByte x = none := by
  have not_zero : x ≠ 0 := byte_ne_of_toNat (Nat.zero_lt_of_lt h)
  have not_one : x ≠ 1 := byte_ne_of_toNat h
  rw [Polarity.ofByte, if_neg not_zero, if_neg not_one]

theorem Edges.ofByte_eq_none {x : Byte} (h : 3 < x.toNat) : Edges.ofByte x = none := by
  have differs {y : Byte} (hy : y.toNat ≤ 3) : x ≠ y := byte_ne_of_toNat (Nat.lt_of_le_of_lt hy h)
  rw [Edges.ofByte, if_neg (differs (by decide)), if_neg (differs (by decide)), if_neg (differs (by decide)),
    if_neg (differs (by decide))]

/-! ## The input after the command (R152) -/

section
variable {x : Sense} {t : Time} {polarity : Polarity} {n : Byte} {edges : Edges}

/-- Without a disagreement no qualification runs. -/
theorem Sense.configured_agrees (h : rawState polarity x.level = x.debounced) :
    x.configured t polarity n edges
      = { x with polarity := polarity, debounce := n, edges := edges, qualification := none } := by
  rw [Sense.configured]
  exact congrArg (fun r => { x with polarity := polarity, debounce := n, edges := edges, qualification := r }) (if_pos h)

/-- Against the debounced state, a qualification runs that ends with the first sample after the debounce time. -/
theorem Sense.configured_differs (h : rawState polarity x.level ≠ x.debounced) :
    x.configured t polarity n edges
      = { x with polarity := polarity, debounce := n, edges := edges
                 qualification := some ⟨rawState polarity x.level, x.firstSampleFrom (t + ticks n.toNat)⟩ } := by
  rw [Sense.configured]
  exact congrArg (fun r => { x with polarity := polarity, debounce := n, edges := edges, qualification := r }) (if_neg h)

/-- The next sample is late enough. -/
theorem Sense.firstSampleFrom_next (h : before x.nextSample t = false) : x.firstSampleFrom t = x.nextSample := by
  rw [Sense.firstSampleFrom, if_neg (by simp [h])]

/-- The next sample is too early: samples come every 10 ms, and the first that is late enough ends it. -/
theorem Sense.exists_firstSampleFrom (h : before x.nextSample t = true) : ∃ m : Nat,
    x.firstSampleFrom t = x.nextSample + BitVec.ofNat 32 (m * 10)
    ∧ (t - x.nextSample).toNat ≤ m * 10 ∧ m * 10 < (t - x.nextSample).toNat + 10 := by
  refine ⟨((t - x.nextSample).toNat + 9) / 10, if_pos h, ?_, ?_⟩ <;> omega

end

/-! ## SENSE_CONFIG (R151) -/

theorem run_senseConfig : run (requestOf 0x50 q) s = runSenseConfig (requestOf 0x50 q) s := rfl

section
variable {i p n e : Byte} (h : s.heldBy q) (ho : q.operands = [i, p, n, e])
include h ho

theorem runSenseConfig_bad_index (hi : 3 < i.toNat) : runSenseConfig (requestOf code q) s = refuse .badIndex s := by
  simp only [runSenseConfig, owned_of_heldBy h, operands_requestOf, ho, dif_neg (Nat.not_lt.mpr hi)]

theorem runSenseConfig_bad_value (hi : i.toNat ≤ 3) (hv : Polarity.ofByte p = none ∨ Edges.ofByte e = none) :
    runSenseConfig (requestOf code q) s = refuse .badValue s := by
  simp only [runSenseConfig, owned_of_heldBy h, operands_requestOf, ho, dif_pos (Nat.lt_succ_of_le hi)]
  rcases hv with hp | he
  · rw [hp]
  · rw [he]
    cases Polarity.ofByte p <;> rfl

theorem runSenseConfig_ok {j : Fin 4} {polarity : Polarity} {edges : Edges} (hj : i = byte j.val)
    (hp : p = polarity.code) (he : e = edges.code) :
    runSenseConfig (requestOf code q) s
      = (.answer .ok (i :: ((s.input j).configBytes ++ ((s.input j).configured s.time polarity n edges).configBytes
          ++ ((s.input j).configured s.time polarity n edges).stateBytes)),
        (s.setInput j ((s.input j).configured s.time polarity n edges)).leased) := by
  have value : i.toNat = j.val := hj ▸ toNat_byte_fin (by decide) j
  have inside : i.toNat < 4 := value ▸ j.isLt
  have index : (⟨i.toNat, inside⟩ : Fin 4) = j := Fin.ext value
  simp only [runSenseConfig, owned_of_heldBy h, operands_requestOf, ho, dif_pos inside, hp, he, Polarity.ofByte_code,
    Edges.ofByte_code, index, executed_eq_leased]

end

end Sys2Proof.Machine

/-! ## The statement -/

namespace Sys2Proof.Proofs

open Sys2Proof Sys2Proof.Machine

/-- Settles O59: the checks of R151, then the three cases of R152 for the input. -/
theorem senseConfigConfigures : Obligations.SenseConfigConfigures := by
  intro q s i p n e h hh ho
  have exec_eq {reply : Reply} {t : State} (hr : runSenseConfig (requestOf 0x50 q) s = (reply, t)) :
      exec (.senseConfig q) s = .next (t.served 0x50 q reply) := exec_of_run rfl h (run_senseConfig.trans hr)
  refine ⟨fun hi => exec_eq (runSenseConfig_bad_index hh ho hi), fun hi hv => exec_eq (runSenseConfig_bad_value hh ho hi
    (hv.imp Polarity.ofByte_eq_none Edges.ofByte_eq_none)), fun j polarity edges hj hp he => ?_⟩
  intro x raw after
  refine ⟨x.configured s.time polarity n edges, Sense.configured_agrees, fun hr hb => ?_, fun hr hb => ?_, ?_⟩
  · have late : x.firstSampleFrom (s.time + ticks n.toNat) = x.nextSample := Sense.firstSampleFrom_next hb
    rw [Sense.configured_differs hr, late]
  · obtain ⟨m, first, low, high⟩ := Sense.exists_firstSampleFrom hb
    have early : x.firstSampleFrom (s.time + ticks n.toNat) = x.nextSample + BitVec.ofNat 32 (m * 10) := first
    exact ⟨m, by rw [Sense.configured_differs hr, early], low, high⟩
  · rw [exec_eq (runSenseConfig_ok hh ho hj hp he), hp, he]
    cases hq : (x.configured s.time polarity n edges).qualification <;>
      simp only [x, Sense.stateBytes, hq] <;> rfl

end Sys2Proof.Proofs
end

section
/-! SUPPORT. DISCOVER (R167, R179): the bytes of its two-byte fields, the answer, and the statement. -/
namespace Sys2Proof.Machine

variable {s : State} {q : Req} {code : Byte}

/-- The address byte of results: the holder, or 0xFF without one (R175, R179). -/
theorem State.holderByte_eq : s.holderByte = (s.agent.holder.map (fun a => a.setWidth 8)).getD 0xFF := by
  cases h : s.agent.holder with
  | none => exact State.holderByte_of_none h
  | some a => exact State.holderByte_of_some h

theorem run_discover : run (requestOf 0x01 q) s = runDiscover (requestOf 0x01 q) s := rfl

theorem runDiscover_ok (ho : q.operands = []) :
    runDiscover (requestOf code q) s
      = (.answer .ok ([0x52, 0x03, 0x16, byte revision, s.station.setWidth 8, s.holderByte, 64, 16, 8, 0x04, 0x00, 32]
          ++ be32 s.time), s) := by
  have identity : be16 0x0316 = [0x03, 0x16] := by decide
  have length : be16 1024 = [0x04, 0x00] := by decide
  rw [runDiscover, sized_of_length_eq (List.length_eq_zero_iff.mpr ho), identity, length]
  rfl

/-- The revision counts from 1 and fits in its byte (R164). -/
theorem revision_bounds : 1 ≤ revision ∧ revision ≤ 255 :=
  ⟨Nat.le_add_left 1 _, Config.revisionLessOne.isLt⟩

end Sys2Proof.Machine

/-! ## The statement -/

namespace Sys2Proof.Proofs

open Sys2Proof Sys2Proof.Machine

/-- Settles O41: the length check passes, and the answer is the sixteen bytes of R179. -/
theorem discoverAnswers : Obligations.DiscoverAnswers := by
  intro q s h ho
  refine ⟨?_, revision_bounds⟩
  rw [← State.holderByte_eq]
  exact exec_of_run rfl h (run_discover.trans (runDiscover_ok ho))

end Sys2Proof.Proofs
end
